-- ==== Sys2Proof/Word.lean ====
section
/-! DEFINITION. The words of the CRC core: the data word, the command word, the message byte, and the two words of one command transaction. -/

namespace Sys2Proof

/-- The 64-bit data word, and every 64-bit register (R7: `WMAX` = 64). -/
abbrev Data := BitVec 64

/-- The 16-bit command word (R7, R57). -/
abbrev CmdWord := BitVec 16

/-- A message byte (R7). -/
abbrev Byte := BitVec 8

/-- One command transaction: its two words, presented together (R57). -/
structure Command where
  /-- the command word: opcode and small operands -/
  cmd : CmdWord
  /-- the data word -/
  data : Data
  deriving DecidableEq, Repr

end Sys2Proof
end

