-- ==== Sys2Proof/Syntax.lean ====
section
/-! DEFINITION. The eight commands, one constructor per row of the opcode table (R61); each operand has its field's own width (R60). -/

namespace Sys2Proof

/-- The commands of the opcode map (R61), operands as R60 assembles them. -/
inductive Instr where
  /-- LDPOLY (R78): stage a polynomial. -/
  | ldpoly (v : Data)
  /-- LDINIT (R79): stage an initial remainder. -/
  | ldinit (v : Data)
  /-- LDXOR (R80): stage a final XOR mask. -/
  | ldxor (v : Data)
  /-- CONFIGURE (R83): width, reflect input, reflect output. -/
  | configure (w : BitVec 7) (ri ro : Bool)
  /-- START (R94): begin a computation. -/
  | start
  /-- BYTE (R95): fold one message byte. -/
  | byte (b : Byte)
  /-- FINISH (R96): end the computation, deliver the checksum. -/
  | finish
  /-- REFLECT (R76): reverse the low `n` bits of `v`. -/
  | reflect (v : Data) (n : BitVec 7)
  deriving DecidableEq, Repr

end Sys2Proof
end

