-- ==== Sys2Proof/WellFormed.lean ====
section
/-! DEFINITION. Which command words are well-formed (R59, R61, R63) and which source lines an assembler accepts (R68).
Every term of `Instr` is well-formed by its type: each operand has its field's own width. -/

namespace Sys2Proof

/-- One row of the opcode map (R61): the words it selects are those with `cmd &&& mask = bits`. -/
structure OpcodeRow where
  /-- the row's mnemonic -/
  mnemonic : String
  /-- the map's column "match" -/
  bits : CmdWord
  /-- the map's column "mask", reserved bits included -/
  mask : CmdWord
  deriving DecidableEq, Repr

/-- The opcode map of R61, row by row. -/
def opcodeMap : List OpcodeRow :=
  [ ⟨"LDPOLY",    0x1000, 0xFFFF⟩,
    ⟨"LDINIT",    0x2000, 0xFFFF⟩,
    ⟨"LDXOR",     0x3000, 0xFFFF⟩,
    ⟨"CONFIGURE", 0x4000, 0xFE00⟩,
    ⟨"START",     0x5000, 0xFFFF⟩,
    ⟨"BYTE",      0x6000, 0xFF00⟩,
    ⟨"FINISH",    0x7000, 0xFFFF⟩,
    ⟨"REFLECT",   0x8000, 0xFF80⟩ ]

/-- A row selects a word exactly when `(cmd & mask) == match` (R61). -/
def OpcodeRow.selects (r : OpcodeRow) (cmd : CmdWord) : Bool := cmd &&& r.mask == r.bits

/-- A well-formed command word: some row of the opcode map selects it (R61, R65); any other word is ILLEGAL. -/
def Command.wellFormed (c : Command) : Bool := opcodeMap.any (·.selects c.cmd)

/-- One command as it stands in assembler source (R68): mnemonic and plain numbers, not yet fitted to fields. -/
inductive SourceLine where
  | ldpoly (v : Nat)
  | ldinit (v : Nat)
  | ldxor (v : Nat)
  | configure (w ri ro : Nat)
  | start
  | byte (b : Nat)
  | finish
  | reflect (v n : Nat)
  deriving DecidableEq, Repr

/-- The operands fit their fields (R68): an assembler rejects a `v` of more than 64 bits, a `b` over 255, a `w`
or `n` over 127, and an `ri` or `ro` other than 0 or 1; it need not reject a `w` or `n` the block rejects. -/
def SourceLine.wellFormed : SourceLine → Bool
  | .ldpoly v => v < 2 ^ 64
  | .ldinit v => v < 2 ^ 64
  | .ldxor v => v < 2 ^ 64
  | .configure w ri ro => w ≤ 127 && ri ≤ 1 && ro ≤ 1
  | .start => true
  | .byte b => b ≤ 255
  | .finish => true
  | .reflect v n => v < 2 ^ 64 && n ≤ 127

end Sys2Proof
end

