-- ==== Sys2Proof/Decode.lean ====
section
/-! DEFINITION. Decoding a command transaction, total on all words (R67), rejecting by name; then the encoder (R68),
from the formats of R59; and the word the host lays out by the opcode table's own bit numbers. -/

namespace Sys2Proof

/-- What the decoder answers. Both rejections are the error ILLEGAL (R62, R63). -/
inductive Decoded where
  /-- one of the eight commands -/
  | instr (i : Instr)
  /-- opcode 0x0 or 0x9 to 0xF (R62) -/
  | illegalOpcode
  /-- a legal opcode with a reserved bit of its format set (R63) -/
  | reservedBit
  deriving DecidableEq, Repr

/-- The opcode field, `cmd[15:12]` (R58). -/
def opcode (cmd : CmdWord) : BitVec 4 := cmd.extractLsb' 12 4

/-- Accept `i` only if the `len` reserved bits of `cmd` from bit `lo` on are all 0 (R63). -/
def ifZero (cmd : CmdWord) (lo len : Nat) (i : Instr) : Decoded :=
  if cmd.extractLsb' lo len = 0 then .instr i else .reservedBit

/-- Decoding, case by case as R67 writes it. -/
def decode (c : Command) : Decoded :=
  match (opcode c.cmd).toNat with
  | 0x1 => ifZero c.cmd 0 12 (.ldpoly c.data)
  | 0x2 => ifZero c.cmd 0 12 (.ldinit c.data)
  | 0x3 => ifZero c.cmd 0 12 (.ldxor c.data)
  | 0x4 => ifZero c.cmd 9 3 (.configure (c.cmd.extractLsb' 0 7) (c.cmd.getLsbD 7) (c.cmd.getLsbD 8))
  | 0x5 => ifZero c.cmd 0 12 .start
  | 0x6 => ifZero c.cmd 8 4 (.byte (c.cmd.extractLsb' 0 8))
  | 0x7 => ifZero c.cmd 0 12 .finish
  | 0x8 => ifZero c.cmd 7 5 (.reflect c.data (c.cmd.extractLsb' 0 7))
  | _ => .illegalOpcode

/-- The command of a word that is one. -/
def Decoded.instr? : Decoded → Option Instr
  | .instr i => some i
  | .illegalOpcode => none
  | .reservedBit => none

/-- The words of a command, field beside field as the formats of R59 lay them out; unused data is 0 (R68). -/
def encode : Instr → Command
  | .ldpoly v => ⟨0x1#4 ++ 0#12, v⟩
  | .ldinit v => ⟨0x2#4 ++ 0#12, v⟩
  | .ldxor v => ⟨0x3#4 ++ 0#12, v⟩
  | .configure w ri ro => ⟨0x4#4 ++ 0#3 ++ BitVec.ofBool ro ++ BitVec.ofBool ri ++ w, 0⟩
  | .start => ⟨0x5#4 ++ 0#12, 0⟩
  | .byte b => ⟨0x6#4 ++ 0#4 ++ b, 0⟩
  | .finish => ⟨0x7#4 ++ 0#12, 0⟩
  | .reflect v n => ⟨0x8#4 ++ 0#5 ++ n, v⟩

/-- The transaction whose bits are `w`: bits 15 to 0 the command word, as the table numbers them, bits 79 to 16
the data word; every bit at and above `nbits` is 0. DESIGN CHOICE, safe (log entry 8): the table numbers the command word only. -/
def tableCommand (nbits w : Nat) : Command :=
  { cmd := BitVec.ofNat 16 (w % 2 ^ nbits), data := BitVec.ofNat 64 (w % 2 ^ nbits / 2 ^ 16) }

/-- What the decoder reads from the table's word. -/
def decodeTableWord (nbits w : Nat) : Option Instr := (decode (tableCommand nbits w)).instr?

end Sys2Proof
end

