-- ==== Sys2Proof/Config.lean ====
section
/-! DEFINITION. What an implementation fixes (R7), and the one free value of the model. -/

namespace Sys2Proof

/-- The widest register width, `WMAX` (R7). -/
abbrev Config.wMax : Nat := 64

/-- The widths CONFIGURE accepts, `LEGAL_WIDTHS` (R7, R81; 90_conflicts.md C1). -/
abbrev Config.legalWidths : List Nat := [8, 16, 32, 64]

/-- FREE VALUE: what REM holds after the FINISH numbered `k` left it with no value (R28, R96).
DESIGN CHOICE, safe (log entry 4): no body, so no proof can see a value of it. -/
opaque Config.freeRem (k : Nat) : Data

end Sys2Proof
end

