-- ==== Sys2Proof/Machine/State.lean ====
section
/-! DEFINITION. The state of the block (R15), the caller's coming events (R129, R130), the ways a step can stop, and the state after reset (R40). -/

namespace Sys2Proof.Machine

/-- What the caller can do to the block between commands (R130). Reading RESULT and STATUS changes no state
(R34), so it is no event. -/
inductive PortEvent where
  /-- issue a command (R57) -/
  | command (c : Command)
  /-- assert reset (R119) -/
  | reset
  /-- assert reset while the command `c` is under way: `c` has no effect (R107, R119) -/
  | resetDuring (c : Command)
  deriving DecidableEq, Repr

/-- The registers of R15, and the model's own fields `port` and `freeCount`. -/
structure State where
  /-- staged polynomial (R16) -/
  spoly : Data
  /-- staged initial remainder (R17) -/
  sinit : Data
  /-- staged final XOR mask (R18) -/
  sxor : Data
  /-- configuration valid (R19) -/
  cfgv : Bool
  /-- width in use (R20) -/
  cw : BitVec 7
  /-- truncated polynomial in use (R21) -/
  cpoly : Data
  /-- initial remainder in use (R22) -/
  cinit : Data
  /-- final XOR mask in use (R23) -/
  cxor : Data
  /-- reflect input (R24) -/
  crefin : Bool
  /-- reflect output (R25) -/
  crefout : Bool
  /-- computation in progress (R27) -/
  busy : Bool
  /-- running remainder (R28) -/
  rem : Data
  /-- result port (R30) -/
  result : Data
  /-- error code of the most recent command (R32) -/
  err : BitVec 4
  /-- some command has failed since reset (R33) -/
  sticky : Bool
  /-- the model's own (log entry 1): the caller's coming events, the next one first -/
  port : List PortEvent
  /-- the model's own (log entry 4): how many FINISHes have left REM with a free value -/
  freeCount : Nat
  deriving DecidableEq, Repr

/-- No command stops the block: each completes on every state, and an error is a defined outcome (R131). So a
step can end in no fault, and the type has no constructor (log entry 7). -/
inductive Fault where
  deriving DecidableEq, Repr

/-- Why a step is refused. Closed; no step of this model is refused (log entry 7). -/
inductive Refusal where
  /-- An instruction with no meaning yet, raised by `exec`'s arm for it; safe. No arm raises it. -/
  | notModelled (mnemonic : String)
  deriving DecidableEq, Repr

/-- Right after reset (R40, R119, R120). CW, CPOLY, CINIT, CXOR, CREFIN, CREFOUT and REM have no value there; the
model names 0 (DESIGN CHOICE, unsafe, log entry 3). Nothing waits at the port, and no free value has been taken. -/
def State.reset : State where
  spoly := 0
  sinit := 0
  sxor := 0
  cfgv := false
  cw := 0
  cpoly := 0
  cinit := 0
  cxor := 0
  crefin := false
  crefout := false
  busy := false
  rem := 0
  result := 0
  err := 0
  sticky := false
  port := []
  freeCount := 0

end Sys2Proof.Machine
end

