-- ==== Sys2Proof/Machine/Operands.lean ====
section
/-! DEFINITION. Widths, masks and the two checks of CONFIGURE (R11, R81, R82), and the bound of REFLECT's count (R75). -/

namespace Sys2Proof.Machine

/-- `mask(W) = 2^W - 1` (R11), as a 64-bit value. -/
def mask (W : Nat) : Data := BitVec.ofNat 64 (2 ^ W - 1)

/-- The width check (R81). -/
def legalWidth (w : BitVec 7) : Bool := Config.legalWidths.contains w.toNat

/-- `v` fits within `W` bits (R11, R82). -/
def fits (v : Data) (W : Nat) : Bool := v.toNat < 2 ^ W

/-- The staged values pass the range check for the width `w` (R82). -/
def State.stagedFit (s : State) (w : BitVec 7) : Bool :=
  fits s.spoly w.toNat && fits s.sinit w.toNat && fits s.sxor w.toNat

/-- REFLECT accepts the count `n` (R75, R76). -/
def countInRange (n : BitVec 7) : Bool := n.toNat ≤ Config.wMax

end Sys2Proof.Machine
end

