-- ==== Sys2Proof/Machine/Flags.lean ====
section
/-! DEFINITION. The error codes (R103) and the STATUS view (R31). -/

namespace Sys2Proof.Machine

/-- The error codes of a failing command, by name (R103). OK, code 0, is no failure. -/
inductive ErrCode where
  /-- reserved opcode or reserved bit -/
  | illegal
  /-- not allowed in the current state -/
  | seq
  /-- configuration rejected -/
  | cfg
  /-- REFLECT with a bit count over 64 -/
  | arg
  deriving DecidableEq, Repr

/-- The code of a command that succeeded (R103). -/
def okCode : BitVec 4 := 0

/-- The code ERR holds for each failure (R103). -/
def ErrCode.code : ErrCode → BitVec 4
  | .illegal => 1
  | .seq => 2
  | .cfg => 3
  | .arg => 4

/-- The 8-bit STATUS word (R31): bit 7 reads as 0, bit 6 BUSY, bit 5 CFGV, bit 4 STICKY, bits 3 to 0 ERR. -/
def State.status (s : State) : BitVec 8 :=
  0#1 ++ BitVec.ofBool s.busy ++ BitVec.ofBool s.cfgv ++ BitVec.ofBool s.sticky ++ s.err

end Sys2Proof.Machine
end

