-- ==== Sys2Proof/Machine/Ops.lean ====
section
/-! DEFINITION. The named operations over the registers, each the writes one command rule makes; the shared operation
that reports an error (R104; an error is no trap, R109, so there is no exception entry or return); and reset (R119). -/

namespace Sys2Proof.Machine

/-- The last effect of a command that succeeds: `ERR <- OK` (R32). -/
def State.succeed (s : State) : State := { s with err := okCode }

/-- A command that fails with code `e` (R104): `ERR <- e`, `STICKY <- 1`, nothing else. -/
def State.fail (e : ErrCode) (s : State) : State := { s with err := e.code, sticky := true }

/-- `SPOLY <- v` (R78). -/
def State.stagePoly (v : Data) (s : State) : State := { s with spoly := v }

/-- `SINIT <- v` (R79). -/
def State.stageInit (v : Data) (s : State) : State := { s with sinit := v }

/-- `SXOR <- v` (R80). -/
def State.stageXor (v : Data) (s : State) : State := { s with sxor := v }

/-- Commit the staged parameters with the width and the reflection flags (R83). -/
def State.commit (w : BitVec 7) (ri ro : Bool) (s : State) : State :=
  { s with cfgv := true, cw := w, cpoly := s.spoly, cinit := s.sinit, cxor := s.sxor, crefin := ri, crefout := ro }

/-- `CFGV <- 0` (R84). The configuration registers keep their bits, which nothing then reads
(R104: "changes nothing else"; DEDUCED, unsafe, log entry 5). -/
def State.invalidate (s : State) : State := { s with cfgv := false }

/-- `REM <- CINIT`, `BUSY <- 1` (R94). -/
def State.seed (s : State) : State := { s with rem := s.cinit, busy := true }

/-- `REM <- v` (R95). -/
def State.writeRem (v : Data) (s : State) : State := { s with rem := v }

/-- `RESULT <- v` (R76). -/
def State.writeResult (v : Data) (s : State) : State := { s with result := v }

/-- `RESULT <- v`, `BUSY <- 0`, `REM <- (no value)` (R96): REM takes the next free value
(DESIGN CHOICE, safe, log entry 4). -/
def State.deliver (v : Data) (s : State) : State :=
  { s with result := v, busy := false, rem := Config.freeRem s.freeCount, freeCount := s.freeCount + 1 }

/-- Reset (R119): every register takes its value of R40. The caller's coming events and the count of free values
are no registers and stay (DEDUCED, safe, log entry 6). -/
def State.assertReset (s : State) : State := { State.reset with port := s.port, freeCount := s.freeCount }

/-- Put an event at the head of the port: the caller's next. -/
def State.present (e : PortEvent) (s : State) : State := { s with port := e :: s.port }

/-- The caller's events after the one being performed. -/
def State.withPort (es : List PortEvent) (s : State) : State := { s with port := es }

end Sys2Proof.Machine
end

