-- ==== Sys2Proof/Machine/Configuration.lean ====
section
/-! DEFINITION. The configuration commands LDPOLY, LDINIT, LDXOR (R78 to R80) and CONFIGURE (R83 to R85). -/

namespace Sys2Proof.Machine

/-- LDPOLY (R78). -/
def execLdpoly (v : Data) (s : State) : Host.Outcome State Fault Refusal := .next ((s.stagePoly v).succeed)

/-- LDINIT (R79). -/
def execLdinit (v : Data) (s : State) : Host.Outcome State Fault Refusal := .next ((s.stageInit v).succeed)

/-- LDXOR (R80). -/
def execLdxor (v : Data) (s : State) : Host.Outcome State Fault Refusal := .next ((s.stageXor v).succeed)

/-- CONFIGURE (R83): SEQ while BUSY (R85), before the checks (R106); CFG, with CFGV cleared, if a check fails
(R84); else commit. -/
def execConfigure (w : BitVec 7) (ri ro : Bool) (s : State) : Host.Outcome State Fault Refusal :=
  if s.busy then .next (s.fail .seq)
  else if legalWidth w && s.stagedFit w then .next ((s.commit w ri ro).succeed)
  else .next (s.invalidate.fail .cfg)

end Sys2Proof.Machine
end

