-- ==== Sys2Proof/Machine/Reflector.lean ====
section
/-! DEFINITION. The Bit Reflector (R71) and its command REFLECT (R76). -/

namespace Sys2Proof.Machine

/-- `r[k] <- b`, for a bit of `r` that is 0. -/
def putBit (r : Data) (k : Nat) (b : Bool) : Data := if b then r ||| (1#64 <<< k) else r

/-- The loop of R71, its first `i` turns: turn `i` puts bit `i` of `v` at bit `n-1-i`. -/
def reflectLoop (v : Data) (n : Nat) : Nat → Data
  | 0 => 0
  | i + 1 => putBit (reflectLoop v n i) (n - 1 - i) (v.getLsbD i)

/-- `reflect(v, n)` (R71), for `0 ≤ n ≤ 64` (R75). -/
def reflect (v : Data) (n : Nat) : Data := reflectLoop v n n

/-- REFLECT (R76): ARG for a count over 64, else RESULT <- reflect(v, n). -/
def execReflect (v : Data) (n : BitVec 7) (s : State) : Host.Outcome State Fault Refusal :=
  if countInRange n then .next ((s.writeResult (reflect v n.toNat)).succeed)
  else .next (s.fail .arg)

end Sys2Proof.Machine
end

