-- ==== Sys2Proof/Machine/Divider.lean ====
section
/-! DEFINITION. The CRC Divider: its functions (R89 to R93) and the commands START, BYTE, FINISH (R94 to R96). -/

namespace Sys2Proof.Machine

/-- The bit-step of R89, for `r < 2^W`. -/
def divstep (W : Nat) (P r : Data) : Data :=
  if r.getLsbD (W - 1) then ((r <<< 1) ^^^ P) &&& mask W else (r <<< 1) &&& mask W

/-- `k` bit-steps in order (R91, step 2c). -/
def divsteps (W : Nat) (P : Data) : Nat → Data → Data
  | 0, r => r
  | k + 1, r => divsteps W P k (divstep W P r)

/-- Step 2a of R91: the message byte, reflected if RI = 1, as a 64-bit value. -/
def inputByte (RI : Bool) (b : Byte) : Data :=
  if RI then reflect (b.setWidth 64) 8 else b.setWidth 64

/-- The byte fold of R91. -/
def fold (W : Nat) (P : Data) (RI : Bool) (r : Data) (b : Byte) : Data :=
  divsteps W P 8 (r ^^^ (inputByte RI b <<< (W - 8)))

/-- The final step of R92: the XOR, then the reflection. -/
def finalize (W : Nat) (X : Data) (RO : Bool) (r : Data) : Data :=
  if RO then reflect ((r ^^^ X) &&& mask W) W else (r ^^^ X) &&& mask W

/-- The reference function of R93. -/
def computeCrc (W : Nat) (P I X : Data) (RI RO : Bool) (m : List Byte) : Data :=
  finalize W X RO (m.foldl (fold W P RI) I)

/-- START (R94). -/
def execStart (s : State) : Host.Outcome State Fault Refusal :=
  if !s.cfgv then .next (s.fail .seq)
  else if s.busy then .next (s.fail .seq)
  else .next s.seed.succeed

/-- BYTE (R95). -/
def execByte (b : Byte) (s : State) : Host.Outcome State Fault Refusal :=
  if s.busy then .next ((s.writeRem (fold s.cw.toNat s.cpoly s.crefin s.rem b)).succeed)
  else .next (s.fail .seq)

/-- FINISH (R96). -/
def execFinish (s : State) : Host.Outcome State Fault Refusal :=
  if s.busy then .next ((s.deliver (finalize s.cw.toNat s.cxor s.crefout s.rem)).succeed)
  else .next (s.fail .seq)

end Sys2Proof.Machine
end

