-- ==== Sys2Proof/Machine/Dispatch.lean ====
section
/-! DEFINITION. The one match over the commands. -/

namespace Sys2Proof.Machine

def exec (i : Instr) (s : State) : Host.Outcome State Fault Refusal :=
  match i with
  | .ldpoly v => Sys2Proof.Machine.execLdpoly v s
  | .ldinit v => Sys2Proof.Machine.execLdinit v s
  | .ldxor v => Sys2Proof.Machine.execLdxor v s
  | .configure w ri ro => Sys2Proof.Machine.execConfigure w ri ro s
  | .start => Sys2Proof.Machine.execStart s
  | .byte b => Sys2Proof.Machine.execByte b s
  | .finish => Sys2Proof.Machine.execFinish s
  | .reflect v n => Sys2Proof.Machine.execReflect v n s

end Sys2Proof.Machine
end

