-- ==== Sys2Proof/Machine/Port.lean ====
section
/-! DEFINITION. The command port: performing one command transaction, and serving the caller's next event (R129). -/

namespace Sys2Proof.Machine

/-- Perform a command: decode it (R67); an ILLEGAL word fails with ILLEGAL whatever the state (R62, R63, R106). -/
def perform (c : Command) (s : State) : Host.Outcome State Fault Refusal :=
  match decode c with
  | .instr i => exec i s
  | .illegalOpcode => .next (s.fail .illegal)
  | .reservedBit => .next (s.fail .illegal)

/-- What one event of the caller does to the block. Reset wins over a command under way (R107). -/
def handle (e : PortEvent) (s : State) : Host.Outcome State Fault Refusal :=
  match e with
  | .command c => perform c s
  | .reset => .next s.assertReset
  | .resetDuring _ => .next s.assertReset

/-- Take the caller's next event and let it happen; with none, the block holds its state (R118, R129;
DEDUCED, safe, log entry 2). -/
def serve (s : State) : Host.Outcome State Fault Refusal :=
  match s.port with
  | [] => .next s
  | e :: es => handle e (s.withPort es)

end Sys2Proof.Machine
end

