-- ==== Sys2Proof/Machine/Step.lean ====
section
/-! DEFINITION. One step: one command, or one reset (R129); and placing a command where the next step takes it. -/

namespace Sys2Proof.Machine

/-- One step of the machine. -/
def step (s : State) : Host.Outcome State Fault Refusal := serve s

/-- `s` with the table's word presented at the command port as the caller's next command (log entries 1 and 8). -/
def State.withFetchWord (s : State) (nbits w : Nat) : State := s.present (.command (tableCommand nbits w))

end Sys2Proof.Machine
end

