-- ==== Sys2Proof/Machine/Assembler.lean ====
section
/-! DEFINITION. The assembler: source lines to command words (R68), the pseudo-operations (R69), the presets (R70), and
reading a line of text. No part of the block: what a caller's tool does before it issues commands. -/

namespace Sys2Proof.Machine

/-- The words of a source line, by R68's table of numbers; none where an operand does not fit its field. -/
def assemble (l : SourceLine) : Option Command :=
  if l.wellFormed then
    some <| match l with
      | .ldpoly v => ⟨0x1000, BitVec.ofNat 64 v⟩
      | .ldinit v => ⟨0x2000, BitVec.ofNat 64 v⟩
      | .ldxor v => ⟨0x3000, BitVec.ofNat 64 v⟩
      | .configure w ri ro => ⟨BitVec.ofNat 16 (0x4000 + ro <<< 8 + ri <<< 7 + w), 0⟩
      | .start => ⟨0x5000, 0⟩
      | .byte b => ⟨BitVec.ofNat 16 (0x6000 + b), 0⟩
      | .finish => ⟨0x7000, 0⟩
      | .reflect v n => ⟨BitVec.ofNat 16 (0x8000 + n), BitVec.ofNat 64 v⟩
  else none

/-- `CONFIG w, poly, init, xor, ri, ro` (R69). -/
def pseudoConfig (w poly init xor ri ro : Nat) : List SourceLine :=
  [.ldpoly poly, .ldinit init, .ldxor xor, .configure w ri ro]

/-- `COMPUTE b0, …, bk-1` (R69), and `COMPUTE` with no bytes. -/
def pseudoCompute (bytes : List Nat) : List SourceLine :=
  .start :: (bytes.map .byte ++ [.finish])

/-- `COMPUTE "text"` (R69): the ASCII codes of the text, in order (R12; PRESUMED, safe, log entry 11). -/
def pseudoComputeText (text : List Char) : List SourceLine := pseudoCompute (text.map Char.toNat)

/-- `CONFIG_CRC32` (R70). -/
def presetCrc32 : List SourceLine := pseudoConfig 32 0x04C11DB7 0xFFFFFFFF 0xFFFFFFFF 1 1

/-- `CONFIG_CCITT` (R70). -/
def presetCcitt : List SourceLine := pseudoConfig 16 0x1021 0xFFFF 0x0000 0 0

/-- A blank of the source text (DESIGN CHOICE, safe, log entry 11). -/
def isBlank (c : Char) : Bool := c == ' ' || c == '\t'

/-- A text without the blanks at its ends. -/
def trimBlanks (cs : List Char) : List Char :=
  ((cs.dropWhile isBlank).reverse.dropWhile isBlank).reverse

/-- The line before its comment: "Text after `;` is a comment" (R68), but for a `;` inside a quoted text
(DESIGN CHOICE, safe, log entry 11). `inText` says that a quote is open. -/
def beforeComment (inText : Bool) : List Char → List Char
  | [] => []
  | c :: cs =>
    if c == ';' && !inText then [] else c :: beforeComment (if c == '"' then !inText else inText) cs

/-- The pieces between commas; `acc` is the open piece, reversed. -/
def splitAtCommas (acc : List Char) : List Char → List (List Char)
  | [] => [acc.reverse]
  | c :: cs => if c == ',' then acc.reverse :: splitAtCommas [] cs else splitAtCommas (c :: acc) cs

/-- The value of a digit in a base of 2, 10 or 16. -/
def digitValue (base : Nat) (c : Char) : Option Nat :=
  let v :=
    if '0' ≤ c ∧ c ≤ '9' then c.toNat - '0'.toNat
    else if 'a' ≤ c ∧ c ≤ 'f' then c.toNat - 'a'.toNat + 10
    else if 'A' ≤ c ∧ c ≤ 'F' then c.toNat - 'A'.toNat + 10
    else base
  if v < base then some v else none

/-- The number a run of digits spells, after `acc`. -/
def readDigits (base acc : Nat) : List Char → Option Nat
  | [] => some acc
  | c :: cs => (digitValue base c).bind fun v => readDigits base (acc * base + v) cs

/-- A number: decimal, `0x` hexadecimal or `0b` binary (R68). -/
def readNumber : List Char → Option Nat
  | '0' :: 'x' :: c :: cs => readDigits 16 0 (c :: cs)
  | '0' :: 'b' :: c :: cs => readDigits 2 0 (c :: cs)
  | c :: cs => readDigits 10 0 (c :: cs)
  | [] => none

/-- The operands of a line, separated by commas (R68). -/
def readOperands (cs : List Char) : Option (List Nat) :=
  if cs.isEmpty then some [] else (splitAtCommas [] cs).mapM fun p => readNumber (trimBlanks p)

/-- A text between double quotes, ASCII only (PRESUMED, safe, log entry 11). R12 and R69 do not say whether a double
quote may stand inside the text, plain or escaped: the model rejects such a text (DESIGN CHOICE, safe, log entry 11). -/
def readQuoted (cs : List Char) : Option (List Char) :=
  match cs with
  | '"' :: rest =>
    let text := rest.dropLast
    if rest.getLast? == some '"' && text.all (fun c => c != '"' && c.toNat < 128) then some text else none
  | _ => none

/-- The source lines a mnemonic and its operands stand for (R68, R69, R70). -/
def expand (mnemonic : String) (ops : List Nat) : Option (List SourceLine) :=
  match mnemonic, ops with
  | "LDPOLY", [v] => some [.ldpoly v]
  | "LDINIT", [v] => some [.ldinit v]
  | "LDXOR", [v] => some [.ldxor v]
  | "CONFIGURE", [w, ri, ro] => some [.configure w ri ro]
  | "START", [] => some [.start]
  | "BYTE", [b] => some [.byte b]
  | "FINISH", [] => some [.finish]
  | "REFLECT", [v, n] => some [.reflect v n]
  | "CONFIG", [w, poly, init, xor, ri, ro] => some (pseudoConfig w poly init xor ri ro)
  | "COMPUTE", bytes => some (pseudoCompute bytes)
  | "CONFIG_CRC32", [] => some presetCrc32
  | "CONFIG_CCITT", [] => some presetCcitt
  | _, _ => none

/-- One line of source text: mnemonic first, then its operands (R68); an empty line is no command. -/
def readLine (line : List Char) : Option (List SourceLine) :=
  let code := trimBlanks (beforeComment false line)
  let mnemonic := String.ofList (code.takeWhile (!isBlank ·))
  let rest := trimBlanks (code.dropWhile (!isBlank ·))
  if code.isEmpty then some []
  else if mnemonic == "COMPUTE" && rest.head? == some '"' then (readQuoted rest).map pseudoComputeText
  else (readOperands rest).bind (expand mnemonic)

/-- A source text, line by line, to the commands it stands for; none where the assembler rejects a line. -/
def assembleText (lines : List (List Char)) : Option (List Command) :=
  (lines.mapM readLine).bind fun ls => ls.flatten.mapM assemble

end Sys2Proof.Machine
end

