-- ==== Sys2Proof/Machine/Instances.lean ====
section
/-! DEFINITION. Several block instances side by side: separate machines that share nothing (R116). -/

namespace Sys2Proof.Machine

/-- A system of block instances, which have no state but their own (R116). -/
abbrev System := List State

/-- The instance in place `k` takes one step; there is no such step where there is no such instance. -/
def stepAt (k : Nat) (sys : System) : Option System :=
  match sys[k]? with
  | none => none
  | some s =>
    match step s with
    | .next t => some (sys.set k t)
    | .fault _ => none
    | .refused _ => none

end Sys2Proof.Machine
end

