-- ==== Sys2Proof/Safety.lean ====
section
/-! DEFINITION. The invariants of the block (R26, R28, R29, R31, R33), a run free of errors (R131), and command sequences as
events of the port, in the terms the statements use. -/

namespace Sys2Proof.Machine

/-- Configuration invariant (R26): a valid configuration has a legal width, and its parameters fit in it. -/
abbrev State.ConfigInv (s : State) : Prop :=
  s.cfgv = true → legalWidth s.cw = true ∧ fits s.cpoly s.cw.toNat = true ∧ fits s.cinit s.cw.toNat = true ∧
    fits s.cxor s.cw.toNat = true

/-- Computation invariant: BUSY = 1 implies CFGV = 1 (R29) and REM < 2^CW (R97). -/
abbrev State.BusyInv (s : State) : Prop :=
  s.busy = true → s.cfgv = true ∧ fits s.rem s.cw.toNat = true

/-- Status invariant: ERR is 0 to 4 (R31), and STICKY = 0 means that the last command did not fail (R33). -/
abbrev State.StatusInv (s : State) : Prop :=
  s.err.toNat ≤ 4 ∧ (s.sticky = false → s.err = 0)

/-- What holds of the block in every state a run reaches. -/
abbrev State.Inv (s : State) : Prop := s.ConfigInv ∧ s.BusyInv ∧ s.StatusInv

/-- No command has failed since reset (R33, R131). -/
abbrev State.ErrorFree (s : State) : Prop := s.sticky = false

/-- `k` steps, each one event of the caller (R129, R131); it is `core`'s own run. -/
def runSteps : Nat → State → Host.Outcome State Fault Refusal
  | 0, s => .next s
  | k + 1, s =>
    match step s with
    | .next t => runSteps k t
    | .fault r => .fault r
    | .refused r => .refused r

/-- The events by which a caller issues these commands, in order. -/
def issue (is : List Instr) : List PortEvent := is.map fun i => .command (encode i)

/-- The events by which a caller issues these words, in order. -/
def issueWords (cs : List Command) : List PortEvent := cs.map .command

/-- The commands of one computation over the message `m` (R88). -/
def computation (m : List Byte) : List Instr := .start :: (m.map .byte ++ [.finish])

/-- A command that may stand inside a computation and leave it alone (R98): REFLECT, LDPOLY, LDINIT, LDXOR. -/
def sparesComputation : Instr → Bool
  | .ldpoly _ => true
  | .ldinit _ => true
  | .ldxor _ => true
  | .reflect _ _ => true
  | .configure _ _ _ => false
  | .start => false
  | .byte _ => false
  | .finish => false

/-- The message bytes among some commands, in order (R42). -/
def messageOf : List Instr → List Byte
  | [] => []
  | .byte b :: is => b :: messageOf is
  | .ldpoly _ :: is => messageOf is
  | .ldinit _ :: is => messageOf is
  | .ldxor _ :: is => messageOf is
  | .configure _ _ _ :: is => messageOf is
  | .start :: is => messageOf is
  | .finish :: is => messageOf is
  | .reflect _ _ :: is => messageOf is

/-- An event that asserts reset (R119, R107). -/
def PortEvent.isReset : PortEvent → Bool
  | .command _ => false
  | .reset => true
  | .resetDuring _ => true

end Sys2Proof.Machine
end

