-- ==== Sys2Proof/Certificates/Slice0/Obligations.lean ====
section
/-! DEFINITION. The statements about the CRC core, one per definition, from the numbered rules of spec/. -/

open Sys2Proof Sys2Proof.Machine

/-! ### Encoding -/

/-- Words written out from R59, R61 and R67 (and the rows of tables T6 and T7) decode to the command they stand for;
two ILLEGAL words do not (R62, R63). -/
def Obligations.SpecWordsDecodeToTheirCommands : Prop :=
  decode ⟨0x1000, 0x04C11DB7⟩ = .instr (.ldpoly 0x04C11DB7) ∧
  decode ⟨0x2000, 0xFFFFFFFF⟩ = .instr (.ldinit 0xFFFFFFFF) ∧
  decode ⟨0x3000, 0⟩ = .instr (.ldxor 0) ∧
  decode ⟨0x41A0, 0⟩ = .instr (.configure 32 true true) ∧
  decode ⟨0x5000, 0⟩ = .instr .start ∧
  decode ⟨0x6031, 0⟩ = .instr (.byte 0x31) ∧
  decode ⟨0x7000, 0⟩ = .instr .finish ∧
  decode ⟨0x8041, 1⟩ = .instr (.reflect 1 65) ∧
  decode ⟨0x0000, 0⟩ = .illegalOpcode ∧
  decode ⟨0x4208, 0⟩ = .reservedBit

/-- Decoding the words of a command gives the command back, at every value of every operand (R59, R61, R67, R68). -/
def Obligations.DecodeOfEncodeIsTheCommand : Prop := ∀ i : Instr, decode (encode i) = .instr i

/-- Encoding what a word decodes to gives the command word back, and the data word where the format has one
(formats D and R; R59, R67). -/
def Obligations.EncodeOfDecodeIsTheWord : Prop :=
  ∀ (c : Command) (i : Instr), decode c = .instr i →
    (encode i).cmd = c.cmd ∧
    (match i with
      | .ldpoly _ => (encode i).data = c.data
      | .ldinit _ => (encode i).data = c.data
      | .ldxor _ => (encode i).data = c.data
      | .reflect _ _ => (encode i).data = c.data
      | .configure _ _ _ => (encode i).data = 0
      | .start => (encode i).data = 0
      | .byte _ => (encode i).data = 0
      | .finish => (encode i).data = 0)

/-- The opcode map (R61): a word selects each command exactly when `(cmd & mask) == match`. -/
def Obligations.WordSelectsCommandByMaskAndMatch : Prop :=
  ∀ c : Command,
    ((∃ v, decode c = .instr (.ldpoly v)) ↔ c.cmd &&& 0xFFFF = 0x1000) ∧
    ((∃ v, decode c = .instr (.ldinit v)) ↔ c.cmd &&& 0xFFFF = 0x2000) ∧
    ((∃ v, decode c = .instr (.ldxor v)) ↔ c.cmd &&& 0xFFFF = 0x3000) ∧
    ((∃ w ri ro, decode c = .instr (.configure w ri ro)) ↔ c.cmd &&& 0xFE00 = 0x4000) ∧
    (decode c = .instr .start ↔ c.cmd &&& 0xFFFF = 0x5000) ∧
    ((∃ b, decode c = .instr (.byte b)) ↔ c.cmd &&& 0xFF00 = 0x6000) ∧
    (decode c = .instr .finish ↔ c.cmd &&& 0xFFFF = 0x7000) ∧
    ((∃ v n, decode c = .instr (.reflect v n)) ↔ c.cmd &&& 0xFF80 = 0x8000)

/-- Operand assembly (R60): each operand is its field's bits, neither extended, scaled nor shifted. -/
def Obligations.OperandsAreTheirFields : Prop :=
  ∀ c : Command,
    (∀ v, decode c = .instr (.ldpoly v) → v = c.data) ∧
    (∀ v, decode c = .instr (.ldinit v) → v = c.data) ∧
    (∀ v, decode c = .instr (.ldxor v) → v = c.data) ∧
    (∀ w ri ro, decode c = .instr (.configure w ri ro) →
      w.toNat = c.cmd.toNat % 128 ∧ ri = c.cmd.toNat.testBit 7 ∧ ro = c.cmd.toNat.testBit 8) ∧
    (∀ b, decode c = .instr (.byte b) → b.toNat = c.cmd.toNat % 256) ∧
    (∀ v n, decode c = .instr (.reflect v n) → v = c.data ∧ n.toNat = c.cmd.toNat % 128)

/-- Formats Z, C and B ignore the data word: any value gives the same effect (R64). -/
def Obligations.UnusedDataWordIsIgnored : Prop :=
  ∀ (cmd : CmdWord) (d d' : Data) (s : State), 4 ≤ cmd.toNat / 4096 → cmd.toNat / 4096 ≤ 7 →
    perform ⟨cmd, d⟩ s = perform ⟨cmd, d'⟩ s

/-- The assembler's table (R68): the numbers it gives for each line, which lines it rejects, and that the block's
decoder reads each as the command meant. -/
def Obligations.AssembledLinesDecodeToTheirCommands : Prop :=
  (∀ v, assemble (.ldpoly v) = none ↔ 2 ^ 64 ≤ v) ∧
  (∀ v, v < 2 ^ 64 → ∃ c, assemble (.ldpoly v) = some c ∧ decode c = .instr (.ldpoly (BitVec.ofNat 64 v))) ∧
  (∀ v, assemble (.ldinit v) = none ↔ 2 ^ 64 ≤ v) ∧
  (∀ v, v < 2 ^ 64 → ∃ c, assemble (.ldinit v) = some c ∧ decode c = .instr (.ldinit (BitVec.ofNat 64 v))) ∧
  (∀ v, assemble (.ldxor v) = none ↔ 2 ^ 64 ≤ v) ∧
  (∀ v, v < 2 ^ 64 → ∃ c, assemble (.ldxor v) = some c ∧ decode c = .instr (.ldxor (BitVec.ofNat 64 v))) ∧
  (∀ w ri ro, assemble (.configure w ri ro) = none ↔ 127 < w ∨ 1 < ri ∨ 1 < ro) ∧
  (∀ w ri ro, w ≤ 127 → ri ≤ 1 → ro ≤ 1 → ∃ c, assemble (.configure w ri ro) = some c ∧
    decode c = .instr (.configure (BitVec.ofNat 7 w) (ri == 1) (ro == 1))) ∧
  (∃ c, assemble .start = some c ∧ decode c = .instr .start) ∧
  (∀ b, assemble (.byte b) = none ↔ 255 < b) ∧
  (∀ b, b ≤ 255 → ∃ c, assemble (.byte b) = some c ∧ decode c = .instr (.byte (BitVec.ofNat 8 b))) ∧
  (∃ c, assemble .finish = some c ∧ decode c = .instr .finish) ∧
  (∀ v n, assemble (.reflect v n) = none ↔ 2 ^ 64 ≤ v ∨ 127 < n) ∧
  (∀ v n, v < 2 ^ 64 → n ≤ 127 → ∃ c, assemble (.reflect v n) = some c ∧
    decode c = .instr (.reflect (BitVec.ofNat 64 v) (BitVec.ofNat 7 n)))

/-! ### One step -/

/-- When the caller's next event is a command, the step takes the event off the port and performs it; when its words
decode to an instruction, it runs that instruction (R50, R129). The port is the model's form of the caller (log entry 1). -/
def Obligations.StepRunsTheDecodedCommand : Prop :=
  ∀ (s : State) (c : Command) (es : List PortEvent), s.port = .command c :: es →
    step s = perform c { s with port := es } ∧
    ∀ i : Instr, decode c = .instr i → step s = exec i { s with port := es }

/-- Opcodes 0x0 and 0x9 to 0xF are illegal (R62): the command fails with ILLEGAL and has no other effect. -/
def Obligations.IllegalOpcodeFailsWithNoOtherEffect : Prop :=
  ∀ (c : Command) (s : State), c.cmd.toNat / 4096 = 0 ∨ 9 ≤ c.cmd.toNat / 4096 →
    perform c s = .next { s with err := 1, sticky := true }

/-- A legal opcode with a reserved bit of its format set (R63): the command fails with ILLEGAL and has no other
effect. Reserved are cmd[11:0] in formats Z and D, cmd[11:9] in C, cmd[11:8] in B, cmd[11:7] in R. -/
def Obligations.ReservedBitFailsWithNoOtherEffect : Prop :=
  ∀ (c : Command) (s : State),
    (c.cmd.toNat / 4096 ∈ [1, 2, 3, 5, 7] ∧ c.cmd.toNat % 2 ^ 12 ≠ 0) ∨
    (c.cmd.toNat / 4096 = 4 ∧ c.cmd.toNat / 2 ^ 9 % 2 ^ 3 ≠ 0) ∨
    (c.cmd.toNat / 4096 = 6 ∧ c.cmd.toNat / 2 ^ 8 % 2 ^ 4 ≠ 0) ∨
    (c.cmd.toNat / 4096 = 8 ∧ c.cmd.toNat / 2 ^ 7 % 2 ^ 5 ≠ 0) →
    perform c s = .next { s with err := 1, sticky := true }

/-- Reset (R119), asserted between commands or while a command is under way (which then has no effect): every
register with a reset value takes it. The configuration registers and REM hold no value, so nothing is said of them.
That the caller's later events stay, and that a reset meeting a command is one event, is the model's reading (DEDUCED,
log entry 6). -/
def Obligations.ResetStepGivesResetValues : Prop :=
  ∀ (s : State) (e : PortEvent) (es : List PortEvent), s.port = e :: es →
    (e = .reset ∨ ∃ c, e = .resetDuring c) →
    ∃ t, step s = .next t ∧ t.spoly = 0 ∧ t.sinit = 0 ∧ t.sxor = 0 ∧ t.result = 0 ∧ t.err = 0 ∧ t.sticky = false ∧
      t.cfgv = false ∧ t.busy = false ∧ t.port = es

/-- With no event at the port the block holds its state (R118, R129; log entry 2). -/
def Obligations.IdleStepHoldsTheState : Prop := ∀ s : State, s.port = [] → step s = .next s

/-- Every step completes, on every state (R131): no command is stuck. -/
def Obligations.EveryStepCompletes : Prop := ∀ s : State, ∃ t, step s = .next t

/-- The reset values of R40, for the registers that have one, and the STATUS view. -/
def Obligations.ResetStateHasTheResetValues : Prop :=
  State.reset.spoly = 0 ∧ State.reset.sinit = 0 ∧ State.reset.sxor = 0 ∧ State.reset.cfgv = false ∧
  State.reset.busy = false ∧ State.reset.result = 0 ∧ State.reset.err = 0 ∧ State.reset.sticky = false ∧
  State.reset.status = 0x00

/-! ### Status and errors -/

/-- STATUS (R31): its value from its fields, bit 7 reading as 0, and no command produces an ERR of 5 to 15. -/
def Obligations.StatusIsTheViewOfItsFields : Prop :=
  (∀ s : State, s.status.toNat = s.err.toNat ||| (s.sticky.toNat <<< 4) ||| (s.cfgv.toNat <<< 5) ||| (s.busy.toNat <<< 6)) ∧
  (∀ s : State, s.status.extractLsb' 0 4 = s.err ∧ s.status.getLsbD 4 = s.sticky ∧ s.status.getLsbD 5 = s.cfgv ∧
    s.status.getLsbD 6 = s.busy ∧ s.status.getLsbD 7 = false) ∧
  (∀ (c : Command) (s t : State), perform c s = .next t → t.err.toNat ≤ 4)

/-- Which error a command ends with, and on which causes (R103), in the order of R106: ILLEGAL on the word alone;
ARG on the count alone; SEQ on the state, leaving CFGV as it was; CFG only when BUSY = 0. -/
def Obligations.ErrorCodeByItsCause : Prop :=
  ∀ (c : Command) (s t : State), perform c s = .next t →
    (t.err = 1 ↔ ¬ ∃ i, decode c = .instr i) ∧
    (t.err = 4 ↔ ∃ v n, decode c = .instr (.reflect v n) ∧ 64 < n.toNat) ∧
    (t.err = 2 ↔
      (decode c = .instr .start ∧ (s.cfgv = false ∨ s.busy = true)) ∨
      (∃ w ri ro, decode c = .instr (.configure w ri ro) ∧ s.busy = true) ∨
      (∃ b, decode c = .instr (.byte b) ∧ s.busy = false) ∨
      (decode c = .instr .finish ∧ s.busy = false)) ∧
    (t.err = 3 ↔ ∃ w ri ro, decode c = .instr (.configure w ri ro) ∧ s.busy = false ∧
      (w.toNat ∉ [8, 16, 32, 64] ∨ 2 ^ w.toNat ≤ s.spoly.toNat ∨ 2 ^ w.toNat ≤ s.sinit.toNat ∨
        2 ^ w.toNat ≤ s.sxor.toNat)) ∧
    (t.err = 2 → t.cfgv = s.cfgv) ∧
    t.err.toNat ≤ 4

/-- A failing command (R104) writes ERR, sets STICKY and changes nothing else, but that CFG clears CFGV. That the
configuration registers keep their bits on CFG is the model's reading (DEDUCED, log entry 5). -/
def Obligations.FailingCommandChangesOnlyItsReport : Prop :=
  ∀ (c : Command) (s t : State), perform c s = .next t → t.err ≠ 0 →
    t = { s with err := t.err, sticky := true, cfgv := if t.err = 3 then false else s.cfgv }

/-- STICKY (R33): every failing command sets it, no command clears it, reset does. -/
def Obligations.StickyIsSetByFailureAndClearedOnlyByReset : Prop :=
  (∀ (c : Command) (s t : State), perform c s = .next t → (t.sticky = true ↔ s.sticky = true ∨ t.err ≠ 0)) ∧
  (∀ (s : State) (e : PortEvent) (es : List PortEvent), s.port = e :: es → e.isReset = true →
    ∃ t, step s = .next t ∧ t.sticky = false)

/-- Which commands may write which register (R15, the column "written by"). -/
def Obligations.RegistersAreWrittenOnlyByTheirCommands : Prop :=
  ∀ (i : Instr) (s t : State), exec i s = .next t →
    (t.spoly ≠ s.spoly → ∃ v, i = .ldpoly v) ∧
    (t.sinit ≠ s.sinit → ∃ v, i = .ldinit v) ∧
    (t.sxor ≠ s.sxor → ∃ v, i = .ldxor v) ∧
    (t.cfgv ≠ s.cfgv ∨ t.cw ≠ s.cw ∨ t.cpoly ≠ s.cpoly ∨ t.cinit ≠ s.cinit ∨ t.cxor ≠ s.cxor ∨
      t.crefin ≠ s.crefin ∨ t.crefout ≠ s.crefout → ∃ w ri ro, i = .configure w ri ro) ∧
    (t.busy ≠ s.busy → i = .start ∨ i = .finish) ∧
    (t.rem ≠ s.rem → i = .start ∨ i = .finish ∨ ∃ b, i = .byte b) ∧
    (t.result ≠ s.result → i = .finish ∨ ∃ v n, i = .reflect v n) ∧
    (t.sticky ≠ s.sticky → t.err ≠ 0) ∧
    t.port = s.port

/-- RESULT (R30): only a successful FINISH or REFLECT writes it, and within the width written. FINISH's bound needs a
legal CW, which the invariant gives while BUSY = 1. -/
def Obligations.ResultIsWrittenOnlyBySuccess : Prop :=
  ∀ (c : Command) (s t : State), perform c s = .next t →
    (t.result ≠ s.result → t.err = 0 ∧
      (decode c = .instr .finish ∨ ∃ v n, decode c = .instr (.reflect v n))) ∧
    (s.Inv → decode c = .instr .finish → t.err = 0 → t.result.toNat < 2 ^ s.cw.toNat) ∧
    (∀ v n, decode c = .instr (.reflect v n) → t.err = 0 → t.result.toNat < 2 ^ n.toNat)

/-- Every command but START, BYTE and FINISH is idempotent (R46): repeating it leaves the same state. -/
def Obligations.RepeatedCommandLeavesTheSameState : Prop :=
  ∀ (c : Command) (s t : State), perform c s = .next t →
    decode c ≠ .instr .start → (∀ b, decode c ≠ .instr (.byte b)) → decode c ≠ .instr .finish →
    perform c t = .next t

/-! ### The Bit Reflector -/

/-- `reflect` (R71): bit i goes to bit n-1-i, the result is below 2^n, and it is the sum of R71. -/
def Obligations.ReflectReversesTheLowBits : Prop :=
  ∀ (v : Data) (n : Nat), n ≤ 64 →
    (∀ i, i < n → (reflect v n).getLsbD (n - 1 - i) = v.getLsbD i) ∧
    (reflect v n).toNat < 2 ^ n ∧
    (reflect v n).toNat = ∑ i ∈ Finset.range n, (v.getLsbD i).toNat * 2 ^ (n - 1 - i)

/-- `reflect` with n = 0 is 0 (R72), and bits at and above n do not matter (R73). -/
def Obligations.ReflectIgnoresHighBits : Prop :=
  (∀ v : Data, reflect v 0 = 0) ∧
  (∀ (v : Data) (n : Nat), n ≤ 64 →
    reflect v n = reflect (v &&& BitVec.ofNat 64 (2 ^ n - 1)) n ∧ (reflect v n).toNat < 2 ^ n)

/-- Involution (R74). -/
def Obligations.ReflectIsAnInvolution : Prop :=
  ∀ (x : Data) (n : Nat), n ≤ 64 →
    (x.toNat < 2 ^ n → reflect (reflect x n) n = x) ∧
    reflect (reflect x n) n = x &&& BitVec.ofNat 64 (2 ^ n - 1)

/-- REFLECT (R76): its completion and frame for a count up to 64, and the whole rule on its words. -/
def Obligations.ReflectCommandDeliversOrFailsWithArg : Prop :=
  (∀ (v : Data) (n : BitVec 7) (s : State), n.toNat ≤ 64 →
    exec (.reflect v n) s = .next { s with result := reflect v n.toNat, err := 0 }) ∧
  (∀ (cmd : CmdWord) (v : Data) (s : State), cmd.toNat / 4096 = 8 →
    perform ⟨cmd, v⟩ s = .next (
      if cmd.toNat / 2 ^ 7 % 2 ^ 5 ≠ 0 then { s with err := 1, sticky := true }
      else if 64 < cmd.toNat % 2 ^ 7 then { s with err := 4, sticky := true }
      else { s with result := reflect v (cmd.toNat % 2 ^ 7), err := 0 }))

/-- REFLECT neither reads nor writes a configuration or computation register (R77), in any state. -/
def Obligations.ReflectSparesConfigurationAndComputation : Prop :=
  ∀ (v : Data) (n : BitVec 7) (s s' t t' : State),
    exec (.reflect v n) s = .next t → exec (.reflect v n) s' = .next t' →
    t = { s with result := t.result, err := t.err, sticky := t.sticky } ∧
    t.err = t'.err ∧ (n.toNat ≤ 64 → t.result = t'.result)

/-! ### Configuration -/

/-- LDPOLY (R78): completion and frame, and the whole rule on its words. -/
def Obligations.LdpolyStagesThePolynomial : Prop :=
  (∀ (v : Data) (s : State), exec (.ldpoly v) s = .next { s with spoly := v, err := 0 }) ∧
  (∀ (cmd : CmdWord) (v : Data) (s : State), cmd.toNat / 4096 = 1 →
    perform ⟨cmd, v⟩ s = .next (
      if cmd.toNat % 2 ^ 12 ≠ 0 then { s with err := 1, sticky := true } else { s with spoly := v, err := 0 }))

/-- LDINIT (R79): completion and frame, and the whole rule on its words. -/
def Obligations.LdinitStagesTheInitialRemainder : Prop :=
  (∀ (v : Data) (s : State), exec (.ldinit v) s = .next { s with sinit := v, err := 0 }) ∧
  (∀ (cmd : CmdWord) (v : Data) (s : State), cmd.toNat / 4096 = 2 →
    perform ⟨cmd, v⟩ s = .next (
      if cmd.toNat % 2 ^ 12 ≠ 0 then { s with err := 1, sticky := true } else { s with sinit := v, err := 0 }))

/-- LDXOR (R80): completion and frame, and the whole rule on its words. -/
def Obligations.LdxorStagesTheFinalXor : Prop :=
  (∀ (v : Data) (s : State), exec (.ldxor v) s = .next { s with sxor := v, err := 0 }) ∧
  (∀ (cmd : CmdWord) (v : Data) (s : State), cmd.toNat / 4096 = 3 →
    perform ⟨cmd, v⟩ s = .next (
      if cmd.toNat % 2 ^ 12 ≠ 0 then { s with err := 1, sticky := true } else { s with sxor := v, err := 0 }))

/-- CONFIGURE completes (R83): with BUSY = 0, a legal width and staged values that fit, it commits them and changes
nothing else. -/
def Obligations.ConfigureCommitsAcceptedParameters : Prop :=
  ∀ (w : BitVec 7) (ri ro : Bool) (s : State), s.busy = false → w.toNat ∈ [8, 16, 32, 64] →
    s.spoly.toNat < 2 ^ w.toNat → s.sinit.toNat < 2 ^ w.toNat → s.sxor.toNat < 2 ^ w.toNat →
    exec (.configure w ri ro) s = .next { s with
      cfgv := true, cw := w, cpoly := s.spoly, cinit := s.sinit, cxor := s.sxor, crefin := ri, crefout := ro, err := 0 }

/-- CONFIGURE on its words, case by case (R83, with the checks of R81 and R82 and the refusal of R85). On CFG nothing
is said of the six configuration registers, which then hold no value (R26). -/
def Obligations.ConfigureWordTestsThenCommits : Prop :=
  ∀ (cmd : CmdWord) (d : Data) (s : State) (w : BitVec 7), cmd.toNat / 4096 = 4 → w.toNat = cmd.toNat % 2 ^ 7 →
    ∃ t, perform ⟨cmd, d⟩ s = .next t ∧
      (if cmd.toNat / 2 ^ 9 % 2 ^ 3 ≠ 0 then t = { s with err := 1, sticky := true }
       else if s.busy = true then t = { s with err := 2, sticky := true }
       else if w.toNat ∈ [8, 16, 32, 64] ∧ s.spoly.toNat < 2 ^ w.toNat ∧ s.sinit.toNat < 2 ^ w.toNat ∧
           s.sxor.toNat < 2 ^ w.toNat then
         t = { s with
           cfgv := true, cw := w, cpoly := s.spoly, cinit := s.sinit, cxor := s.sxor,
           crefin := cmd.toNat.testBit 7, crefout := cmd.toNat.testBit 8, err := 0 }
       else t.cfgv = false ∧ t.err = 3 ∧ t.sticky = true ∧ t.spoly = s.spoly ∧ t.sinit = s.sinit ∧ t.sxor = s.sxor ∧
         t.busy = false ∧ t.rem = s.rem ∧ t.result = s.result ∧ t.port = s.port)

/-- A CONFIGURE that a check rejects clears CFGV, even if a valid configuration was in use, and leaves the staging
registers (R84). Until a later CONFIGURE succeeds CFGV stays 0, whatever command is performed, and START fails with SEQ. -/
def Obligations.RejectedConfigurationRefusesStart : Prop :=
  (∀ (w : BitVec 7) (ri ro : Bool) (s : State), s.busy = false →
    ¬ (w.toNat ∈ [8, 16, 32, 64] ∧ s.spoly.toNat < 2 ^ w.toNat ∧ s.sinit.toNat < 2 ^ w.toNat ∧
        s.sxor.toNat < 2 ^ w.toNat) →
    ∃ t, exec (.configure w ri ro) s = .next t ∧ t.cfgv = false ∧ t.err = 3 ∧ t.sticky = true ∧
      t.spoly = s.spoly ∧ t.sinit = s.sinit ∧ t.sxor = s.sxor) ∧
  (∀ (c : Command) (s t : State), s.cfgv = false → perform c s = .next t →
    (t.cfgv = true ↔ (∃ w ri ro, decode c = .instr (.configure w ri ro)) ∧ t.err = 0)) ∧
  (∀ s : State, s.cfgv = false → exec .start s = .next { s with err := 2, sticky := true })

/-- The configuration does not change while BUSY = 1 (R29), whatever command is performed. -/
def Obligations.ConfigurationIsFixedWhileBusy : Prop :=
  ∀ (c : Command) (s t : State), perform c s = .next t → s.busy = true →
    t.cfgv = s.cfgv ∧ t.cw = s.cw ∧ t.cpoly = s.cpoly ∧ t.cinit = s.cinit ∧ t.cxor = s.cxor ∧
    t.crefin = s.crefin ∧ t.crefout = s.crefout

/-! ### The CRC Divider: functions -/

/-- The bit-step (R89) in exact arithmetic: test the top bit, double, XOR, mask to W bits. -/
def Obligations.BitStepIsShiftAndConditionalXor : Prop :=
  ∀ (W : Nat) (P r : Data), 8 ≤ W → W ≤ 64 → r.toNat < 2 ^ W →
    (divstep W P r).toNat =
      (if r.toNat.testBit (W - 1) then ((r.toNat <<< 1) ^^^ P.toNat) % 2 ^ W else (r.toNat <<< 1) % 2 ^ W) ∧
    (divstep W P r).toNat < 2 ^ W

/-- Masking before or after the XOR is the same (R90), for a polynomial that fits. -/
def Obligations.MaskingBeforeOrAfterTheXorAgrees : Prop :=
  ∀ (W : Nat) (P r : Data), 8 ≤ W → W ≤ 64 → P.toNat < 2 ^ W → r.toNat < 2 ^ W →
    divstep W P r = if r.getLsbD (W - 1) then ((r <<< 1) &&& mask W) ^^^ P else (r <<< 1) &&& mask W

/-- The byte fold (R91): reflect the byte if RI = 1, XOR it into bits W-1 to W-8, eight bit-steps; the result is below 2^W. -/
def Obligations.ByteFoldIsEightBitSteps : Prop :=
  ∀ (W : Nat) (P : Data) (RI : Bool) (r : Data) (b : Byte), 8 ≤ W → W ≤ 64 → r.toNat < 2 ^ W →
    fold W P RI r b =
      (divstep W P)^[8] (r ^^^ ((if RI then reflect (b.setWidth 64) 8 else b.setWidth 64) <<< (W - 8))) ∧
    (fold W P RI r b).toNat < 2 ^ W

/-- Bit order within a byte (R43): bit j of the byte meets bit W-8+j of REM, or bit W-1-j when CREFIN = 1; no other
bit of REM is met. -/
def Obligations.ByteIsFoldedMostSignificantBitFirst : Prop :=
  ∀ (W : Nat) (b : Byte) (k : Nat), 8 ≤ W → W ≤ 64 → k < 64 →
    (inputByte false b <<< (W - 8)).getLsbD k = (decide (W - 8 ≤ k) && b.getLsbD (k - (W - 8))) ∧
    (inputByte true b <<< (W - 8)).getLsbD k = (decide (W - 8 ≤ k ∧ k < W) && b.getLsbD (W - 1 - k))

/-- With CPOLY = 0 the eight bit-steps of a BYTE shift REM left by 8 bits within CW bits (R95). -/
def Obligations.ZeroPolynomialShiftsByEight : Prop :=
  ∀ (W : Nat) (r : Data), 8 ≤ W → W ≤ 64 → r.toNat < 2 ^ W →
    ((divstep W 0)^[8] r).toNat = r.toNat * 256 % 2 ^ W

/-- The final step (R92): XOR, mask, then the optional reflection; the result is below 2^W. -/
def Obligations.FinalStepXorsThenReflects : Prop :=
  ∀ (W : Nat) (X r : Data) (RO : Bool), 8 ≤ W → W ≤ 64 → r.toNat < 2 ^ W →
    (RO = false → (finalize W X RO r).toNat = (r.toNat ^^^ X.toNat) % 2 ^ W) ∧
    (RO = true → finalize W X RO r = reflect (BitVec.ofNat 64 ((r.toNat ^^^ X.toNat) % 2 ^ W)) W) ∧
    (finalize W X RO r).toNat < 2 ^ W

/-- The empty message (R99): I XOR X, reflected if RO = 1. -/
def Obligations.EmptyMessageGivesInitXorFinal : Prop :=
  ∀ (W : Nat) (P I X : Data) (RI RO : Bool), 8 ≤ W → W ≤ 64 → I.toNat < 2 ^ W → X.toNat < 2 ^ W →
    computeCrc W P I X RI RO [] = if RO then reflect (I ^^^ X) W else I ^^^ X

/-- Width masking (R100): every checksum is below 2^W, whatever the message and the parameters. -/
def Obligations.ChecksumFitsItsWidth : Prop :=
  ∀ (W : Nat) (P I X : Data) (RI RO : Bool) (m : List Byte), 8 ≤ W → W ≤ 64 →
    (computeCrc W P I X RI RO m).toNat < 2 ^ W

/-- The algebraic reading (R102; the spec marks it as general knowledge): with I = X = 0 and no reflection the
checksum, read as a polynomial over the two-element field, is the remainder of M(x) x^W by x^W + P(x). -/
def Obligations.ChecksumIsThePolynomialRemainder : Prop :=
  ∀ (W : Nat) (P : Data) (m : List Byte), 8 ≤ W → W ≤ 64 → P.toNat < 2 ^ W →
    ∑ i ∈ Finset.range W, (if (computeCrc W P 0 0 false false m).getLsbD i then (Polynomial.X : Polynomial (ZMod 2)) ^ i else 0) =
      ((m.foldl (fun M b => M * Polynomial.X ^ 8 +
          ∑ i ∈ Finset.range 8, (if b.getLsbD i then (Polynomial.X : Polynomial (ZMod 2)) ^ i else 0)) 0) * Polynomial.X ^ W) %ₘ
        (Polynomial.X ^ W + ∑ i ∈ Finset.range W, (if P.getLsbD i then (Polynomial.X : Polynomial (ZMod 2)) ^ i else 0))

/-! ### The CRC Divider: commands -/

/-- START (R94): completion and frame, and the whole rule on its words. -/
def Obligations.StartSeedsTheRemainder : Prop :=
  (∀ s : State, s.cfgv = true → s.busy = false →
    exec .start s = .next { s with rem := s.cinit, busy := true, err := 0 }) ∧
  (∀ (cmd : CmdWord) (d : Data) (s : State), cmd.toNat / 4096 = 5 →
    perform ⟨cmd, d⟩ s = .next (
      if cmd.toNat % 2 ^ 12 ≠ 0 then { s with err := 1, sticky := true }
      else if s.cfgv = false then { s with err := 2, sticky := true }
      else if s.busy = true then { s with err := 2, sticky := true }
      else { s with rem := s.cinit, busy := true, err := 0 }))

/-- BYTE (R95): completion and frame, and the whole rule on its words. -/
def Obligations.ByteFoldsIntoTheRemainder : Prop :=
  (∀ (b : Byte) (s : State), s.busy = true →
    exec (.byte b) s = .next { s with rem := fold s.cw.toNat s.cpoly s.crefin s.rem b, err := 0 }) ∧
  (∀ (cmd : CmdWord) (d : Data) (s : State), cmd.toNat / 4096 = 6 →
    perform ⟨cmd, d⟩ s = .next (
      if cmd.toNat / 2 ^ 8 % 2 ^ 4 ≠ 0 then { s with err := 1, sticky := true }
      else if s.busy = false then { s with err := 2, sticky := true }
      else { s with rem := fold s.cw.toNat s.cpoly s.crefin s.rem (BitVec.ofNat 8 (cmd.toNat % 2 ^ 8)), err := 0 }))

/-- FINISH (R96): completion and frame, and the whole rule on its words. REM has no value after it: nothing is said of
REM (a free value, log entry 4). -/
def Obligations.FinishDeliversTheChecksum : Prop :=
  (∀ s : State, s.busy = true → ∃ t, exec .finish s = .next t ∧
    t.result = finalize s.cw.toNat s.cxor s.crefout s.rem ∧ t.busy = false ∧ t.err = 0 ∧
    t.spoly = s.spoly ∧ t.sinit = s.sinit ∧ t.sxor = s.sxor ∧ t.cfgv = s.cfgv ∧ t.cw = s.cw ∧ t.cpoly = s.cpoly ∧
    t.cinit = s.cinit ∧ t.cxor = s.cxor ∧ t.crefin = s.crefin ∧ t.crefout = s.crefout ∧ t.sticky = s.sticky ∧
    t.port = s.port) ∧
  (∀ (cmd : CmdWord) (d : Data) (s : State), cmd.toNat / 4096 = 7 →
    perform ⟨cmd, d⟩ s =
      if cmd.toNat % 2 ^ 12 ≠ 0 then .next { s with err := 1, sticky := true }
      else if s.busy = false then .next { s with err := 2, sticky := true }
      else exec .finish s)

/-! ### Invariants and whole runs -/

/-- The invariant holds right after reset. -/
def Obligations.InvariantHoldsAtReset : Prop := State.reset.Inv

/-- Every step keeps the invariant: a valid configuration is legal (R26), BUSY implies CFGV (R29) and REM < 2^CW (R97),
ERR is 0 to 4 (R31), and STICKY = 0 only while the last command did not fail (R33). -/
def Obligations.EveryStepKeepsTheInvariant : Prop :=
  ∀ s t : State, s.Inv → step s = .next t → t.Inv

/-- The command sequence of a computation computes `compute_crc` (R98), from any configured idle state. That the
commands come from `port`, and that its later events stay, is the model's form of the caller (DESIGN CHOICE, log entry 1). -/
def Obligations.ComputationSequenceComputesTheCrc : Prop :=
  ∀ (s : State) (m : List Byte) (es : List PortEvent), s.cfgv = true → s.busy = false →
    s.port = issue (computation m) ++ es →
    ∃ t, runSteps (m.length + 2) s = .next t ∧
      t.result = computeCrc s.cw.toNat s.cpoly s.cinit s.cxor s.crefin s.crefout m ∧
      t.busy = false ∧ t.cfgv = true ∧ t.err = 0 ∧ t.sticky = s.sticky ∧ t.port = es

/-- REFLECT, LDPOLY, LDINIT and LDXOR commands placed inside a computation do not change the result of its FINISH
(R98, second sentence), whether or not they succeed. The port is the model's form of the caller (DESIGN CHOICE, log
entry 1). -/
def Obligations.SparingCommandsDoNotChangeTheChecksum : Prop :=
  ∀ (s : State) (is : List Instr) (es : List PortEvent), s.cfgv = true → s.busy = false →
    (∀ i ∈ is, sparesComputation i = true ∨ ∃ b, i = .byte b) →
    s.port = issue (.start :: (is ++ [.finish])) ++ es →
    ∃ t, runSteps (is.length + 2) s = .next t ∧
      t.result = computeCrc s.cw.toNat s.cpoly s.cinit s.cxor s.crefin s.crefout (messageOf is) ∧
      t.busy = false ∧ t.cfgv = true ∧ t.err = 0 ∧ t.port = es

/-- Once a configuration is accepted a computation cannot fail (R87): after each of its commands ERR = OK and STICKY is
as it was. The port is the model's form of the caller (DESIGN CHOICE, log entry 1). -/
def Obligations.AcceptedConfigurationCannotFail : Prop :=
  ∀ (s : State) (m : List Byte) (es : List PortEvent) (k : Nat), s.cfgv = true → s.busy = false →
    s.port = issue (computation m) ++ es → 1 ≤ k → k ≤ m.length + 2 →
    ∃ t, runSteps k s = .next t ∧ t.err = 0 ∧ t.sticky = s.sticky

/-- The boot sequence and a computation, as an assembler emits the pseudo-operations CONFIG and COMPUTE (R69, R122): from
any idle state they leave the checksum of the given parameters and bytes in RESULT. The port is the model's form of the
caller (DESIGN CHOICE, log entry 1). -/
def Obligations.ConfigThenComputeDeliversTheChecksum : Prop :=
  ∀ (s : State) (w poly init xor ri ro : Nat) (m : List Byte) (cs : List Command) (es : List PortEvent),
    s.busy = false → w ∈ [8, 16, 32, 64] → poly < 2 ^ w → init < 2 ^ w → xor < 2 ^ w → ri ≤ 1 → ro ≤ 1 →
    (pseudoConfig w poly init xor ri ro ++ pseudoCompute (m.map BitVec.toNat)).mapM assemble = some cs →
    s.port = issueWords cs ++ es →
    ∃ t, runSteps (m.length + 6) s = .next t ∧
      t.result = computeCrc w (BitVec.ofNat 64 poly) (BitVec.ofNat 64 init) (BitVec.ofNat 64 xor) (ri == 1) (ro == 1) m ∧
      t.busy = false ∧ t.cfgv = true ∧ t.err = 0 ∧ t.sticky = s.sticky ∧ t.port = es

/-- No state carries from one message into another's result (R51; 90_conflicts.md C6): two idle machines with the same
configuration, whatever else differs, give the same checksum for the same message. The port is the model's form of the
caller (DESIGN CHOICE, log entry 1). -/
def Obligations.ChecksumDependsOnlyOnConfigurationAndMessage : Prop :=
  ∀ (s s' : State) (m : List Byte) (es es' : List PortEvent) (t t' : State),
    s.cfgv = true → s'.cfgv = true → s.busy = false → s'.busy = false →
    s.cw = s'.cw → s.cpoly = s'.cpoly → s.cinit = s'.cinit → s.cxor = s'.cxor → s.crefin = s'.crefin →
    s.crefout = s'.crefout →
    s.port = issue (computation m) ++ es → s'.port = issue (computation m) ++ es' →
    runSteps (m.length + 2) s = .next t → runSteps (m.length + 2) s' = .next t' → t.result = t'.result

/-- A run that ends with STICKY = 0 and asserted no reset on the way had no failing command (R33, R131): after each of
its steps ERR = OK. The premise is the invariant, and that no event among the run's is a reset. The port is the model's
form of the caller (DESIGN CHOICE, log entry 1). -/
def Obligations.RunEndingErrorFreeHadNoFailure : Prop :=
  ∀ (k : Nat) (s t : State), s.Inv → (∀ e ∈ s.port.take k, e.isReset = false) → runSteps k s = .next t →
    t.ErrorFree → ∀ j, j ≤ k → ∃ u, runSteps j s = .next u ∧ u.err = 0 ∧ u.ErrorFree

/-- Instances are separate machines (R116): a step of one is that machine's own step, and leaves every other as it was.
That a system is a list of states of which one steps at a time is the model's reading (DEDUCED, log entry 15). -/
def Obligations.InstancesDoNotAffectEachOther : Prop :=
  ∀ (sys sys' : System) (k : Nat), stepAt k sys = some sys' →
    (∃ s t, sys[k]? = some s ∧ step s = .next t ∧ sys'[k]? = some t) ∧
    (∀ j, j ≠ k → sys'[j]? = sys[j]?)
end

