-- ==== Sys2Proof/Laws/State.lean ====
section
/-! SUPPORT. What each named operation leaves in each field of the state, field by field: later proofs unfold no record update. -/

namespace Sys2Proof.Machine

@[simp] theorem State.succeed_spoly (s : State) : s.succeed.spoly = s.spoly := rfl
@[simp] theorem State.succeed_sinit (s : State) : s.succeed.sinit = s.sinit := rfl
@[simp] theorem State.succeed_sxor (s : State) : s.succeed.sxor = s.sxor := rfl
@[simp] theorem State.succeed_cfgv (s : State) : s.succeed.cfgv = s.cfgv := rfl
@[simp] theorem State.succeed_cw (s : State) : s.succeed.cw = s.cw := rfl
@[simp] theorem State.succeed_cpoly (s : State) : s.succeed.cpoly = s.cpoly := rfl
@[simp] theorem State.succeed_cinit (s : State) : s.succeed.cinit = s.cinit := rfl
@[simp] theorem State.succeed_cxor (s : State) : s.succeed.cxor = s.cxor := rfl
@[simp] theorem State.succeed_crefin (s : State) : s.succeed.crefin = s.crefin := rfl
@[simp] theorem State.succeed_crefout (s : State) : s.succeed.crefout = s.crefout := rfl
@[simp] theorem State.succeed_busy (s : State) : s.succeed.busy = s.busy := rfl
@[simp] theorem State.succeed_rem (s : State) : s.succeed.rem = s.rem := rfl
@[simp] theorem State.succeed_result (s : State) : s.succeed.result = s.result := rfl
@[simp] theorem State.succeed_err (s : State) : s.succeed.err = okCode := rfl
@[simp] theorem State.succeed_sticky (s : State) : s.succeed.sticky = s.sticky := rfl
@[simp] theorem State.succeed_port (s : State) : s.succeed.port = s.port := rfl
@[simp] theorem State.succeed_freeCount (s : State) : s.succeed.freeCount = s.freeCount := rfl

@[simp] theorem State.fail_spoly (e : ErrCode) (s : State) : (s.fail e).spoly = s.spoly := rfl
@[simp] theorem State.fail_sinit (e : ErrCode) (s : State) : (s.fail e).sinit = s.sinit := rfl
@[simp] theorem State.fail_sxor (e : ErrCode) (s : State) : (s.fail e).sxor = s.sxor := rfl
@[simp] theorem State.fail_cfgv (e : ErrCode) (s : State) : (s.fail e).cfgv = s.cfgv := rfl
@[simp] theorem State.fail_cw (e : ErrCode) (s : State) : (s.fail e).cw = s.cw := rfl
@[simp] theorem State.fail_cpoly (e : ErrCode) (s : State) : (s.fail e).cpoly = s.cpoly := rfl
@[simp] theorem State.fail_cinit (e : ErrCode) (s : State) : (s.fail e).cinit = s.cinit := rfl
@[simp] theorem State.fail_cxor (e : ErrCode) (s : State) : (s.fail e).cxor = s.cxor := rfl
@[simp] theorem State.fail_crefin (e : ErrCode) (s : State) : (s.fail e).crefin = s.crefin := rfl
@[simp] theorem State.fail_crefout (e : ErrCode) (s : State) : (s.fail e).crefout = s.crefout := rfl
@[simp] theorem State.fail_busy (e : ErrCode) (s : State) : (s.fail e).busy = s.busy := rfl
@[simp] theorem State.fail_rem (e : ErrCode) (s : State) : (s.fail e).rem = s.rem := rfl
@[simp] theorem State.fail_result (e : ErrCode) (s : State) : (s.fail e).result = s.result := rfl
@[simp] theorem State.fail_err (e : ErrCode) (s : State) : (s.fail e).err = e.code := rfl
@[simp] theorem State.fail_sticky (e : ErrCode) (s : State) : (s.fail e).sticky = true := rfl
@[simp] theorem State.fail_port (e : ErrCode) (s : State) : (s.fail e).port = s.port := rfl
@[simp] theorem State.fail_freeCount (e : ErrCode) (s : State) : (s.fail e).freeCount = s.freeCount := rfl

@[simp] theorem State.stagePoly_spoly (v : Data) (s : State) : (s.stagePoly v).spoly = v := rfl
@[simp] theorem State.stagePoly_sinit (v : Data) (s : State) : (s.stagePoly v).sinit = s.sinit := rfl
@[simp] theorem State.stagePoly_sxor (v : Data) (s : State) : (s.stagePoly v).sxor = s.sxor := rfl
@[simp] theorem State.stagePoly_cfgv (v : Data) (s : State) : (s.stagePoly v).cfgv = s.cfgv := rfl
@[simp] theorem State.stagePoly_cw (v : Data) (s : State) : (s.stagePoly v).cw = s.cw := rfl
@[simp] theorem State.stagePoly_cpoly (v : Data) (s : State) : (s.stagePoly v).cpoly = s.cpoly := rfl
@[simp] theorem State.stagePoly_cinit (v : Data) (s : State) : (s.stagePoly v).cinit = s.cinit := rfl
@[simp] theorem State.stagePoly_cxor (v : Data) (s : State) : (s.stagePoly v).cxor = s.cxor := rfl
@[simp] theorem State.stagePoly_crefin (v : Data) (s : State) : (s.stagePoly v).crefin = s.crefin := rfl
@[simp] theorem State.stagePoly_crefout (v : Data) (s : State) : (s.stagePoly v).crefout = s.crefout := rfl
@[simp] theorem State.stagePoly_busy (v : Data) (s : State) : (s.stagePoly v).busy = s.busy := rfl
@[simp] theorem State.stagePoly_rem (v : Data) (s : State) : (s.stagePoly v).rem = s.rem := rfl
@[simp] theorem State.stagePoly_result (v : Data) (s : State) : (s.stagePoly v).result = s.result := rfl
@[simp] theorem State.stagePoly_err (v : Data) (s : State) : (s.stagePoly v).err = s.err := rfl
@[simp] theorem State.stagePoly_sticky (v : Data) (s : State) : (s.stagePoly v).sticky = s.sticky := rfl
@[simp] theorem State.stagePoly_port (v : Data) (s : State) : (s.stagePoly v).port = s.port := rfl
@[simp] theorem State.stagePoly_freeCount (v : Data) (s : State) : (s.stagePoly v).freeCount = s.freeCount := rfl

@[simp] theorem State.stageInit_spoly (v : Data) (s : State) : (s.stageInit v).spoly = s.spoly := rfl
@[simp] theorem State.stageInit_sinit (v : Data) (s : State) : (s.stageInit v).sinit = v := rfl
@[simp] theorem State.stageInit_sxor (v : Data) (s : State) : (s.stageInit v).sxor = s.sxor := rfl
@[simp] theorem State.stageInit_cfgv (v : Data) (s : State) : (s.stageInit v).cfgv = s.cfgv := rfl
@[simp] theorem State.stageInit_cw (v : Data) (s : State) : (s.stageInit v).cw = s.cw := rfl
@[simp] theorem State.stageInit_cpoly (v : Data) (s : State) : (s.stageInit v).cpoly = s.cpoly := rfl
@[simp] theorem State.stageInit_cinit (v : Data) (s : State) : (s.stageInit v).cinit = s.cinit := rfl
@[simp] theorem State.stageInit_cxor (v : Data) (s : State) : (s.stageInit v).cxor = s.cxor := rfl
@[simp] theorem State.stageInit_crefin (v : Data) (s : State) : (s.stageInit v).crefin = s.crefin := rfl
@[simp] theorem State.stageInit_crefout (v : Data) (s : State) : (s.stageInit v).crefout = s.crefout := rfl
@[simp] theorem State.stageInit_busy (v : Data) (s : State) : (s.stageInit v).busy = s.busy := rfl
@[simp] theorem State.stageInit_rem (v : Data) (s : State) : (s.stageInit v).rem = s.rem := rfl
@[simp] theorem State.stageInit_result (v : Data) (s : State) : (s.stageInit v).result = s.result := rfl
@[simp] theorem State.stageInit_err (v : Data) (s : State) : (s.stageInit v).err = s.err := rfl
@[simp] theorem State.stageInit_sticky (v : Data) (s : State) : (s.stageInit v).sticky = s.sticky := rfl
@[simp] theorem State.stageInit_port (v : Data) (s : State) : (s.stageInit v).port = s.port := rfl
@[simp] theorem State.stageInit_freeCount (v : Data) (s : State) : (s.stageInit v).freeCount = s.freeCount := rfl

@[simp] theorem State.stageXor_spoly (v : Data) (s : State) : (s.stageXor v).spoly = s.spoly := rfl
@[simp] theorem State.stageXor_sinit (v : Data) (s : State) : (s.stageXor v).sinit = s.sinit := rfl
@[simp] theorem State.stageXor_sxor (v : Data) (s : State) : (s.stageXor v).sxor = v := rfl
@[simp] theorem State.stageXor_cfgv (v : Data) (s : State) : (s.stageXor v).cfgv = s.cfgv := rfl
@[simp] theorem State.stageXor_cw (v : Data) (s : State) : (s.stageXor v).cw = s.cw := rfl
@[simp] theorem State.stageXor_cpoly (v : Data) (s : State) : (s.stageXor v).cpoly = s.cpoly := rfl
@[simp] theorem State.stageXor_cinit (v : Data) (s : State) : (s.stageXor v).cinit = s.cinit := rfl
@[simp] theorem State.stageXor_cxor (v : Data) (s : State) : (s.stageXor v).cxor = s.cxor := rfl
@[simp] theorem State.stageXor_crefin (v : Data) (s : State) : (s.stageXor v).crefin = s.crefin := rfl
@[simp] theorem State.stageXor_crefout (v : Data) (s : State) : (s.stageXor v).crefout = s.crefout := rfl
@[simp] theorem State.stageXor_busy (v : Data) (s : State) : (s.stageXor v).busy = s.busy := rfl
@[simp] theorem State.stageXor_rem (v : Data) (s : State) : (s.stageXor v).rem = s.rem := rfl
@[simp] theorem State.stageXor_result (v : Data) (s : State) : (s.stageXor v).result = s.result := rfl
@[simp] theorem State.stageXor_err (v : Data) (s : State) : (s.stageXor v).err = s.err := rfl
@[simp] theorem State.stageXor_sticky (v : Data) (s : State) : (s.stageXor v).sticky = s.sticky := rfl
@[simp] theorem State.stageXor_port (v : Data) (s : State) : (s.stageXor v).port = s.port := rfl
@[simp] theorem State.stageXor_freeCount (v : Data) (s : State) : (s.stageXor v).freeCount = s.freeCount := rfl

@[simp] theorem State.commit_spoly (w : BitVec 7) (ri ro : Bool) (s : State) : (s.commit w ri ro).spoly = s.spoly := rfl
@[simp] theorem State.commit_sinit (w : BitVec 7) (ri ro : Bool) (s : State) : (s.commit w ri ro).sinit = s.sinit := rfl
@[simp] theorem State.commit_sxor (w : BitVec 7) (ri ro : Bool) (s : State) : (s.commit w ri ro).sxor = s.sxor := rfl
@[simp] theorem State.commit_cfgv (w : BitVec 7) (ri ro : Bool) (s : State) : (s.commit w ri ro).cfgv = true := rfl
@[simp] theorem State.commit_cw (w : BitVec 7) (ri ro : Bool) (s : State) : (s.commit w ri ro).cw = w := rfl
@[simp] theorem State.commit_cpoly (w : BitVec 7) (ri ro : Bool) (s : State) : (s.commit w ri ro).cpoly = s.spoly := rfl
@[simp] theorem State.commit_cinit (w : BitVec 7) (ri ro : Bool) (s : State) : (s.commit w ri ro).cinit = s.sinit := rfl
@[simp] theorem State.commit_cxor (w : BitVec 7) (ri ro : Bool) (s : State) : (s.commit w ri ro).cxor = s.sxor := rfl
@[simp] theorem State.commit_crefin (w : BitVec 7) (ri ro : Bool) (s : State) : (s.commit w ri ro).crefin = ri := rfl
@[simp] theorem State.commit_crefout (w : BitVec 7) (ri ro : Bool) (s : State) : (s.commit w ri ro).crefout = ro := rfl
@[simp] theorem State.commit_busy (w : BitVec 7) (ri ro : Bool) (s : State) : (s.commit w ri ro).busy = s.busy := rfl
@[simp] theorem State.commit_rem (w : BitVec 7) (ri ro : Bool) (s : State) : (s.commit w ri ro).rem = s.rem := rfl
@[simp] theorem State.commit_result (w : BitVec 7) (ri ro : Bool) (s : State) : (s.commit w ri ro).result = s.result := rfl
@[simp] theorem State.commit_err (w : BitVec 7) (ri ro : Bool) (s : State) : (s.commit w ri ro).err = s.err := rfl
@[simp] theorem State.commit_sticky (w : BitVec 7) (ri ro : Bool) (s : State) : (s.commit w ri ro).sticky = s.sticky := rfl
@[simp] theorem State.commit_port (w : BitVec 7) (ri ro : Bool) (s : State) : (s.commit w ri ro).port = s.port := rfl
@[simp] theorem State.commit_freeCount (w : BitVec 7) (ri ro : Bool) (s : State) : (s.commit w ri ro).freeCount = s.freeCount := rfl

@[simp] theorem State.invalidate_spoly (s : State) : s.invalidate.spoly = s.spoly := rfl
@[simp] theorem State.invalidate_sinit (s : State) : s.invalidate.sinit = s.sinit := rfl
@[simp] theorem State.invalidate_sxor (s : State) : s.invalidate.sxor = s.sxor := rfl
@[simp] theorem State.invalidate_cfgv (s : State) : s.invalidate.cfgv = false := rfl
@[simp] theorem State.invalidate_cw (s : State) : s.invalidate.cw = s.cw := rfl
@[simp] theorem State.invalidate_cpoly (s : State) : s.invalidate.cpoly = s.cpoly := rfl
@[simp] theorem State.invalidate_cinit (s : State) : s.invalidate.cinit = s.cinit := rfl
@[simp] theorem State.invalidate_cxor (s : State) : s.invalidate.cxor = s.cxor := rfl
@[simp] theorem State.invalidate_crefin (s : State) : s.invalidate.crefin = s.crefin := rfl
@[simp] theorem State.invalidate_crefout (s : State) : s.invalidate.crefout = s.crefout := rfl
@[simp] theorem State.invalidate_busy (s : State) : s.invalidate.busy = s.busy := rfl
@[simp] theorem State.invalidate_rem (s : State) : s.invalidate.rem = s.rem := rfl
@[simp] theorem State.invalidate_result (s : State) : s.invalidate.result = s.result := rfl
@[simp] theorem State.invalidate_err (s : State) : s.invalidate.err = s.err := rfl
@[simp] theorem State.invalidate_sticky (s : State) : s.invalidate.sticky = s.sticky := rfl
@[simp] theorem State.invalidate_port (s : State) : s.invalidate.port = s.port := rfl
@[simp] theorem State.invalidate_freeCount (s : State) : s.invalidate.freeCount = s.freeCount := rfl

@[simp] theorem State.seed_spoly (s : State) : s.seed.spoly = s.spoly := rfl
@[simp] theorem State.seed_sinit (s : State) : s.seed.sinit = s.sinit := rfl
@[simp] theorem State.seed_sxor (s : State) : s.seed.sxor = s.sxor := rfl
@[simp] theorem State.seed_cfgv (s : State) : s.seed.cfgv = s.cfgv := rfl
@[simp] theorem State.seed_cw (s : State) : s.seed.cw = s.cw := rfl
@[simp] theorem State.seed_cpoly (s : State) : s.seed.cpoly = s.cpoly := rfl
@[simp] theorem State.seed_cinit (s : State) : s.seed.cinit = s.cinit := rfl
@[simp] theorem State.seed_cxor (s : State) : s.seed.cxor = s.cxor := rfl
@[simp] theorem State.seed_crefin (s : State) : s.seed.crefin = s.crefin := rfl
@[simp] theorem State.seed_crefout (s : State) : s.seed.crefout = s.crefout := rfl
@[simp] theorem State.seed_busy (s : State) : s.seed.busy = true := rfl
@[simp] theorem State.seed_rem (s : State) : s.seed.rem = s.cinit := rfl
@[simp] theorem State.seed_result (s : State) : s.seed.result = s.result := rfl
@[simp] theorem State.seed_err (s : State) : s.seed.err = s.err := rfl
@[simp] theorem State.seed_sticky (s : State) : s.seed.sticky = s.sticky := rfl
@[simp] theorem State.seed_port (s : State) : s.seed.port = s.port := rfl
@[simp] theorem State.seed_freeCount (s : State) : s.seed.freeCount = s.freeCount := rfl

@[simp] theorem State.writeRem_spoly (v : Data) (s : State) : (s.writeRem v).spoly = s.spoly := rfl
@[simp] theorem State.writeRem_sinit (v : Data) (s : State) : (s.writeRem v).sinit = s.sinit := rfl
@[simp] theorem State.writeRem_sxor (v : Data) (s : State) : (s.writeRem v).sxor = s.sxor := rfl
@[simp] theorem State.writeRem_cfgv (v : Data) (s : State) : (s.writeRem v).cfgv = s.cfgv := rfl
@[simp] theorem State.writeRem_cw (v : Data) (s : State) : (s.writeRem v).cw = s.cw := rfl
@[simp] theorem State.writeRem_cpoly (v : Data) (s : State) : (s.writeRem v).cpoly = s.cpoly := rfl
@[simp] theorem State.writeRem_cinit (v : Data) (s : State) : (s.writeRem v).cinit = s.cinit := rfl
@[simp] theorem State.writeRem_cxor (v : Data) (s : State) : (s.writeRem v).cxor = s.cxor := rfl
@[simp] theorem State.writeRem_crefin (v : Data) (s : State) : (s.writeRem v).crefin = s.crefin := rfl
@[simp] theorem State.writeRem_crefout (v : Data) (s : State) : (s.writeRem v).crefout = s.crefout := rfl
@[simp] theorem State.writeRem_busy (v : Data) (s : State) : (s.writeRem v).busy = s.busy := rfl
@[simp] theorem State.writeRem_rem (v : Data) (s : State) : (s.writeRem v).rem = v := rfl
@[simp] theorem State.writeRem_result (v : Data) (s : State) : (s.writeRem v).result = s.result := rfl
@[simp] theorem State.writeRem_err (v : Data) (s : State) : (s.writeRem v).err = s.err := rfl
@[simp] theorem State.writeRem_sticky (v : Data) (s : State) : (s.writeRem v).sticky = s.sticky := rfl
@[simp] theorem State.writeRem_port (v : Data) (s : State) : (s.writeRem v).port = s.port := rfl
@[simp] theorem State.writeRem_freeCount (v : Data) (s : State) : (s.writeRem v).freeCount = s.freeCount := rfl

@[simp] theorem State.writeResult_spoly (v : Data) (s : State) : (s.writeResult v).spoly = s.spoly := rfl
@[simp] theorem State.writeResult_sinit (v : Data) (s : State) : (s.writeResult v).sinit = s.sinit := rfl
@[simp] theorem State.writeResult_sxor (v : Data) (s : State) : (s.writeResult v).sxor = s.sxor := rfl
@[simp] theorem State.writeResult_cfgv (v : Data) (s : State) : (s.writeResult v).cfgv = s.cfgv := rfl
@[simp] theorem State.writeResult_cw (v : Data) (s : State) : (s.writeResult v).cw = s.cw := rfl
@[simp] theorem State.writeResult_cpoly (v : Data) (s : State) : (s.writeResult v).cpoly = s.cpoly := rfl
@[simp] theorem State.writeResult_cinit (v : Data) (s : State) : (s.writeResult v).cinit = s.cinit := rfl
@[simp] theorem State.writeResult_cxor (v : Data) (s : State) : (s.writeResult v).cxor = s.cxor := rfl
@[simp] theorem State.writeResult_crefin (v : Data) (s : State) : (s.writeResult v).crefin = s.crefin := rfl
@[simp] theorem State.writeResult_crefout (v : Data) (s : State) : (s.writeResult v).crefout = s.crefout := rfl
@[simp] theorem State.writeResult_busy (v : Data) (s : State) : (s.writeResult v).busy = s.busy := rfl
@[simp] theorem State.writeResult_rem (v : Data) (s : State) : (s.writeResult v).rem = s.rem := rfl
@[simp] theorem State.writeResult_result (v : Data) (s : State) : (s.writeResult v).result = v := rfl
@[simp] theorem State.writeResult_err (v : Data) (s : State) : (s.writeResult v).err = s.err := rfl
@[simp] theorem State.writeResult_sticky (v : Data) (s : State) : (s.writeResult v).sticky = s.sticky := rfl
@[simp] theorem State.writeResult_port (v : Data) (s : State) : (s.writeResult v).port = s.port := rfl
@[simp] theorem State.writeResult_freeCount (v : Data) (s : State) : (s.writeResult v).freeCount = s.freeCount := rfl

@[simp] theorem State.deliver_spoly (v : Data) (s : State) : (s.deliver v).spoly = s.spoly := rfl
@[simp] theorem State.deliver_sinit (v : Data) (s : State) : (s.deliver v).sinit = s.sinit := rfl
@[simp] theorem State.deliver_sxor (v : Data) (s : State) : (s.deliver v).sxor = s.sxor := rfl
@[simp] theorem State.deliver_cfgv (v : Data) (s : State) : (s.deliver v).cfgv = s.cfgv := rfl
@[simp] theorem State.deliver_cw (v : Data) (s : State) : (s.deliver v).cw = s.cw := rfl
@[simp] theorem State.deliver_cpoly (v : Data) (s : State) : (s.deliver v).cpoly = s.cpoly := rfl
@[simp] theorem State.deliver_cinit (v : Data) (s : State) : (s.deliver v).cinit = s.cinit := rfl
@[simp] theorem State.deliver_cxor (v : Data) (s : State) : (s.deliver v).cxor = s.cxor := rfl
@[simp] theorem State.deliver_crefin (v : Data) (s : State) : (s.deliver v).crefin = s.crefin := rfl
@[simp] theorem State.deliver_crefout (v : Data) (s : State) : (s.deliver v).crefout = s.crefout := rfl
@[simp] theorem State.deliver_busy (v : Data) (s : State) : (s.deliver v).busy = false := rfl
@[simp] theorem State.deliver_rem (v : Data) (s : State) : (s.deliver v).rem = Config.freeRem s.freeCount := rfl
@[simp] theorem State.deliver_result (v : Data) (s : State) : (s.deliver v).result = v := rfl
@[simp] theorem State.deliver_err (v : Data) (s : State) : (s.deliver v).err = s.err := rfl
@[simp] theorem State.deliver_sticky (v : Data) (s : State) : (s.deliver v).sticky = s.sticky := rfl
@[simp] theorem State.deliver_port (v : Data) (s : State) : (s.deliver v).port = s.port := rfl
@[simp] theorem State.deliver_freeCount (v : Data) (s : State) : (s.deliver v).freeCount = s.freeCount + 1 := rfl

@[simp] theorem State.assertReset_spoly (s : State) : s.assertReset.spoly = 0 := rfl
@[simp] theorem State.assertReset_sinit (s : State) : s.assertReset.sinit = 0 := rfl
@[simp] theorem State.assertReset_sxor (s : State) : s.assertReset.sxor = 0 := rfl
@[simp] theorem State.assertReset_cfgv (s : State) : s.assertReset.cfgv = false := rfl
@[simp] theorem State.assertReset_cw (s : State) : s.assertReset.cw = State.reset.cw := rfl
@[simp] theorem State.assertReset_cpoly (s : State) : s.assertReset.cpoly = State.reset.cpoly := rfl
@[simp] theorem State.assertReset_cinit (s : State) : s.assertReset.cinit = State.reset.cinit := rfl
@[simp] theorem State.assertReset_cxor (s : State) : s.assertReset.cxor = State.reset.cxor := rfl
@[simp] theorem State.assertReset_crefin (s : State) : s.assertReset.crefin = State.reset.crefin := rfl
@[simp] theorem State.assertReset_crefout (s : State) : s.assertReset.crefout = State.reset.crefout := rfl
@[simp] theorem State.assertReset_busy (s : State) : s.assertReset.busy = false := rfl
@[simp] theorem State.assertReset_rem (s : State) : s.assertReset.rem = State.reset.rem := rfl
@[simp] theorem State.assertReset_result (s : State) : s.assertReset.result = 0 := rfl
@[simp] theorem State.assertReset_err (s : State) : s.assertReset.err = 0 := rfl
@[simp] theorem State.assertReset_sticky (s : State) : s.assertReset.sticky = false := rfl
@[simp] theorem State.assertReset_port (s : State) : s.assertReset.port = s.port := rfl
@[simp] theorem State.assertReset_freeCount (s : State) : s.assertReset.freeCount = s.freeCount := rfl

@[simp] theorem State.present_spoly (e : PortEvent) (s : State) : (s.present e).spoly = s.spoly := rfl
@[simp] theorem State.present_sinit (e : PortEvent) (s : State) : (s.present e).sinit = s.sinit := rfl
@[simp] theorem State.present_sxor (e : PortEvent) (s : State) : (s.present e).sxor = s.sxor := rfl
@[simp] theorem State.present_cfgv (e : PortEvent) (s : State) : (s.present e).cfgv = s.cfgv := rfl
@[simp] theorem State.present_cw (e : PortEvent) (s : State) : (s.present e).cw = s.cw := rfl
@[simp] theorem State.present_cpoly (e : PortEvent) (s : State) : (s.present e).cpoly = s.cpoly := rfl
@[simp] theorem State.present_cinit (e : PortEvent) (s : State) : (s.present e).cinit = s.cinit := rfl
@[simp] theorem State.present_cxor (e : PortEvent) (s : State) : (s.present e).cxor = s.cxor := rfl
@[simp] theorem State.present_crefin (e : PortEvent) (s : State) : (s.present e).crefin = s.crefin := rfl
@[simp] theorem State.present_crefout (e : PortEvent) (s : State) : (s.present e).crefout = s.crefout := rfl
@[simp] theorem State.present_busy (e : PortEvent) (s : State) : (s.present e).busy = s.busy := rfl
@[simp] theorem State.present_rem (e : PortEvent) (s : State) : (s.present e).rem = s.rem := rfl
@[simp] theorem State.present_result (e : PortEvent) (s : State) : (s.present e).result = s.result := rfl
@[simp] theorem State.present_err (e : PortEvent) (s : State) : (s.present e).err = s.err := rfl
@[simp] theorem State.present_sticky (e : PortEvent) (s : State) : (s.present e).sticky = s.sticky := rfl
@[simp] theorem State.present_port (e : PortEvent) (s : State) : (s.present e).port = e :: s.port := rfl
@[simp] theorem State.present_freeCount (e : PortEvent) (s : State) : (s.present e).freeCount = s.freeCount := rfl

@[simp] theorem State.withPort_spoly (es : List PortEvent) (s : State) : (s.withPort es).spoly = s.spoly := rfl
@[simp] theorem State.withPort_sinit (es : List PortEvent) (s : State) : (s.withPort es).sinit = s.sinit := rfl
@[simp] theorem State.withPort_sxor (es : List PortEvent) (s : State) : (s.withPort es).sxor = s.sxor := rfl
@[simp] theorem State.withPort_cfgv (es : List PortEvent) (s : State) : (s.withPort es).cfgv = s.cfgv := rfl
@[simp] theorem State.withPort_cw (es : List PortEvent) (s : State) : (s.withPort es).cw = s.cw := rfl
@[simp] theorem State.withPort_cpoly (es : List PortEvent) (s : State) : (s.withPort es).cpoly = s.cpoly := rfl
@[simp] theorem State.withPort_cinit (es : List PortEvent) (s : State) : (s.withPort es).cinit = s.cinit := rfl
@[simp] theorem State.withPort_cxor (es : List PortEvent) (s : State) : (s.withPort es).cxor = s.cxor := rfl
@[simp] theorem State.withPort_crefin (es : List PortEvent) (s : State) : (s.withPort es).crefin = s.crefin := rfl
@[simp] theorem State.withPort_crefout (es : List PortEvent) (s : State) : (s.withPort es).crefout = s.crefout := rfl
@[simp] theorem State.withPort_busy (es : List PortEvent) (s : State) : (s.withPort es).busy = s.busy := rfl
@[simp] theorem State.withPort_rem (es : List PortEvent) (s : State) : (s.withPort es).rem = s.rem := rfl
@[simp] theorem State.withPort_result (es : List PortEvent) (s : State) : (s.withPort es).result = s.result := rfl
@[simp] theorem State.withPort_err (es : List PortEvent) (s : State) : (s.withPort es).err = s.err := rfl
@[simp] theorem State.withPort_sticky (es : List PortEvent) (s : State) : (s.withPort es).sticky = s.sticky := rfl
@[simp] theorem State.withPort_port (es : List PortEvent) (s : State) : (s.withPort es).port = es := rfl
@[simp] theorem State.withPort_freeCount (es : List PortEvent) (s : State) : (s.withPort es).freeCount = s.freeCount := rfl

end Sys2Proof.Machine
end

