-- ==== Sys2Proof/Laws/Configuration.lean ====
section
/-! SUPPORT. What CONFIGURE can do. -/

namespace Sys2Proof.Machine

/-- CONFIGURE fails with SEQ, commits, or fails with CFG and clears CFGV (R83 to R85); it answers nothing else. -/
theorem execConfigure_cases {w : BitVec 7} {ri ro : Bool} {s t : State} (h : execConfigure w ri ro s = .next t) :
    (s.busy = true ∧ t = s.fail .seq) ∨
    (s.busy = false ∧ legalWidth w = true ∧ s.stagedFit w = true ∧ t = (s.commit w ri ro).succeed) ∨
    (s.busy = false ∧ (legalWidth w && s.stagedFit w) = false ∧ t = s.invalidate.fail .cfg) := by
  unfold execConfigure at h
  split at h
  · cases h
    simp_all
  · split at h <;> cases h <;> simp_all

end Sys2Proof.Machine
end

