-- ==== Sys2Proof/Laws/Decode.lean ====
section
/-! SUPPORT. Small lemmas of the decoder, and that no two rows of the opcode map select one word. -/

namespace Sys2Proof

@[simp] theorem instr?_instr (i : Instr) : (Decoded.instr i).instr? = some i := rfl
@[simp] theorem instr?_illegalOpcode : Decoded.illegalOpcode.instr? = none := rfl
@[simp] theorem instr?_reservedBit : Decoded.reservedBit.instr? = none := rfl

/-- An accepted word has its reserved bits 0, and is the command asked for. -/
theorem ifZero_eq_instr {cmd : CmdWord} {lo len : Nat} {i j : Instr} :
    ifZero cmd lo len i = .instr j ↔ cmd.extractLsb' lo len = 0 ∧ i = j := by
  unfold ifZero
  split <;> simp_all

/-- A word with a legal opcode is rejected for a reserved bit alone. -/
theorem ifZero_eq_reservedBit {cmd : CmdWord} {lo len : Nat} {i : Instr} :
    ifZero cmd lo len i = .reservedBit ↔ cmd.extractLsb' lo len ≠ 0 := by
  unfold ifZero
  split <;> simp_all

/-- The opcode is the word's top four bits, as a quotient. -/
theorem opcode_toNat (cmd : CmdWord) : (opcode cmd).toNat = cmd.toNat / 4096 := by
  have := cmd.isLt
  simp [opcode, BitVec.extractLsb'_toNat, Nat.shiftRight_eq_div_pow]
  omega

/-- A field is 0, in exact arithmetic. -/
theorem field_eq_zero_iff (cmd : CmdWord) (lo len : Nat) :
    cmd.extractLsb' lo len = 0 ↔ cmd.toNat / 2 ^ lo % 2 ^ len = 0 := by
  rw [← BitVec.toNat_inj]
  simp [BitVec.extractLsb'_toNat, Nat.shiftRight_eq_div_pow]

/-- All that a word which is a command can be, one row of the opcode map each (R61). -/
theorem decode_cases {c : Command} {i : Instr} (h : decode c = .instr i) :
    (c.cmd.toNat = 0x1000 ∧ i = .ldpoly c.data) ∨
    (c.cmd.toNat = 0x2000 ∧ i = .ldinit c.data) ∨
    (c.cmd.toNat = 0x3000 ∧ i = .ldxor c.data) ∨
    (c.cmd.toNat / 512 = 32 ∧ i = .configure (c.cmd.extractLsb' 0 7) (c.cmd.getLsbD 7) (c.cmd.getLsbD 8)) ∨
    (c.cmd.toNat = 0x5000 ∧ i = .start) ∨
    (c.cmd.toNat / 256 = 96 ∧ i = .byte (c.cmd.extractLsb' 0 8)) ∨
    (c.cmd.toNat = 0x7000 ∧ i = .finish) ∨
    (c.cmd.toNat / 128 = 256 ∧ i = .reflect c.data (c.cmd.extractLsb' 0 7)) := by
  have hl := c.cmd.isLt
  unfold decode at h
  split at h <;> rename_i ho <;> rw [opcode_toNat] at ho <;>
    (try rw [ifZero_eq_instr, field_eq_zero_iff] at h) <;>
    (try (obtain ⟨h1, h2⟩ := h; subst h2; simp; omega))
  cases h

/-- Two rows of the opcode map differ in an opcode bit that both masks hold: no word is two commands. -/
theorem opcodeMap_disjoint :
    opcodeMap.Pairwise (fun r q => r.mask &&& q.mask &&& (r.bits ^^^ q.bits) ≠ 0) := by decide

end Sys2Proof
end

