-- ==== Sys2Proof/Laws/Operands.lean ====
section
/-! SUPPORT. Widths, masks and fitting values. -/

namespace Sys2Proof.Machine

theorem mask_toNat {W : Nat} (h : W ≤ 64) : (mask W).toNat = 2 ^ W - 1 := by
  have : 2 ^ W ≤ 2 ^ 64 := Nat.pow_le_pow_right (by decide) h
  unfold mask
  rw [BitVec.toNat_ofNat]
  exact Nat.mod_eq_of_lt (by omega)

/-- Masking to `W` bits is the remainder by `2^W`. -/
theorem and_mask_toNat {W : Nat} (h : W ≤ 64) (v : Data) : (v &&& mask W).toNat = v.toNat % 2 ^ W := by
  rw [BitVec.toNat_and, mask_toNat h, Nat.and_two_pow_sub_one_eq_mod]

theorem and_mask_lt {W : Nat} (h : W ≤ 64) (v : Data) : (v &&& mask W).toNat < 2 ^ W := by
  rw [and_mask_toNat h]
  exact Nat.mod_lt _ (Nat.two_pow_pos W)

theorem fits_iff {v : Data} {W : Nat} : fits v W = true ↔ v.toNat < 2 ^ W := by simp [fits]

/-- The width check accepts exactly the four widths (R81). -/
theorem legalWidth_iff {w : BitVec 7} :
    legalWidth w = true ↔ w.toNat = 8 ∨ w.toNat = 16 ∨ w.toNat = 32 ∨ w.toNat = 64 := by
  simp [legalWidth, Config.legalWidths]

theorem legalWidth_bounds {w : BitVec 7} (h : legalWidth w = true) : 8 ≤ w.toNat ∧ w.toNat ≤ 64 := by
  rcases legalWidth_iff.mp h with h | h | h | h <;> omega

/-- REFLECT accepts the counts 0 to 64 (R75). -/
theorem countInRange_iff {n : BitVec 7} : countInRange n = true ↔ n.toNat ≤ 64 := by simp [countInRange]

/-- The three staged values fit, one by one (R82). -/
theorem stagedFit_iff {s : State} {w : BitVec 7} :
    s.stagedFit w = true ↔
      s.spoly.toNat < 2 ^ w.toNat ∧ s.sinit.toNat < 2 ^ w.toNat ∧ s.sxor.toNat < 2 ^ w.toNat := by
  simp [State.stagedFit, fits, and_assoc]

end Sys2Proof.Machine
end

