-- ==== Sys2Proof/Laws/Reflector.lean ====
section
/-! SUPPORT. What the reflector's loop has done after some turns, and what REFLECT can do. -/

namespace Sys2Proof.Machine

/-- Putting a bit changes that bit alone. -/
theorem putBit_getLsbD (r : Data) (k j : Nat) (b : Bool) (hk : k < 64) :
    (putBit r k b).getLsbD j = (r.getLsbD j || (b && decide (j = k))) := by
  cases b
  · simp [putBit]
  · have h : (1#64 <<< k).getLsbD j = decide (j = k) := by
      simp only [BitVec.getLsbD_shiftLeft, BitVec.getLsbD_one]
      by_cases hjk : j = k
      · simp [hjk, hk]
      · by_cases hlt : j < k
        · simp [hjk, hlt]
        · have : j - k ≠ 0 := by omega
          simp [hjk, this]
    simp [putBit, BitVec.getLsbD_or, h]

/-- After `i` turns the top `i` bits of the `n` hold the lowest `i` bits of `v`, in reverse; the rest are 0. -/
theorem reflectLoop_getLsbD (v : Data) {n : Nat} (hn : n ≤ 64) (i : Nat) (hi : i ≤ n) (j : Nat) :
    (reflectLoop v n i).getLsbD j = (decide (n - i ≤ j ∧ j < n) && v.getLsbD (n - 1 - j)) := by
  induction i with
  | zero =>
    have : ¬ (n - 0 ≤ j ∧ j < n) := by omega
    rw [decide_eq_false this]
    simp [reflectLoop]
  | succ i ih =>
    rw [reflectLoop, putBit_getLsbD _ _ _ _ (by omega), ih (by omega)]
    by_cases hj : j = n - 1 - i
    · have h1 : n - 1 - j = i := by omega
      have h2 : n - (i + 1) ≤ j ∧ j < n := by omega
      have h3 : ¬ (n - i ≤ j ∧ j < n) := by omega
      rw [h1, decide_eq_true h2, decide_eq_false h3, decide_eq_true hj]
      simp
    · have h4 : decide (n - (i + 1) ≤ j ∧ j < n) = decide (n - i ≤ j ∧ j < n) :=
        decide_eq_decide.mpr (by omega)
      rw [h4, decide_eq_false hj]
      simp

/-- REFLECT always answers a next state: with ARG, or with the reflected value (R76). -/
theorem execReflect_cases {v : Data} {n : BitVec 7} {s t : State} (h : execReflect v n s = .next t) :
    (countInRange n = true ∧ t = (s.writeResult (reflect v n.toNat)).succeed) ∨
      (countInRange n = false ∧ t = s.fail .arg) := by
  unfold execReflect at h
  split at h <;> cases h <;> simp_all

end Sys2Proof.Machine
end

