-- ==== Sys2Proof/Laws/Divider.lean ====
section
/-! SUPPORT. What START, BYTE and FINISH can do, and the equations of the divider's loop. -/

namespace Sys2Proof.Machine

@[simp] theorem divsteps_zero (W : Nat) (P r : Data) : divsteps W P 0 r = r := rfl

theorem divsteps_succ (W : Nat) (P : Data) (k : Nat) (r : Data) :
    divsteps W P (k + 1) r = divsteps W P k (divstep W P r) := rfl

/-- The result of a bit-step is masked, whichever way the top bit went (R89). -/
theorem divstep_eq_and_mask (W : Nat) (P r : Data) :
    divstep W P r = (if r.getLsbD (W - 1) then (r <<< 1) ^^^ P else r <<< 1) &&& mask W := by
  unfold divstep
  split <;> rfl

theorem execStart_cases {s t : State} (h : execStart s = .next t) :
    ((s.cfgv = false ∨ s.busy = true) ∧ t = s.fail .seq) ∨
      (s.cfgv = true ∧ s.busy = false ∧ t = s.seed.succeed) := by
  unfold execStart at h
  split at h
  · cases h
    simp_all
  · split at h <;> cases h <;> simp_all

theorem execByte_cases {b : Byte} {s t : State} (h : execByte b s = .next t) :
    (s.busy = true ∧ t = (s.writeRem (fold s.cw.toNat s.cpoly s.crefin s.rem b)).succeed) ∨
      (s.busy = false ∧ t = s.fail .seq) := by
  unfold execByte at h
  split at h <;> cases h <;> simp_all

theorem execFinish_cases {s t : State} (h : execFinish s = .next t) :
    (s.busy = true ∧ t = (s.deliver (finalize s.cw.toNat s.cxor s.crefout s.rem)).succeed) ∨
      (s.busy = false ∧ t = s.fail .seq) := by
  unfold execFinish at h
  split at h <;> cases h <;> simp_all

end Sys2Proof.Machine
end

