-- ==== Sys2Proof/Laws/PerInstr.lean ====
section
/-! SUPPORT. For every instruction: the words the encoder gives it are a command of the opcode map (R61, R65). -/

namespace Sys2Proof.Laws.EncodeWellFormed

/-- The encoded words are well-formed. -/
def Statement (i : Instr) : Prop := (encode i).wellFormed = true

theorem ldpoly (v : Data) : Statement (.ldpoly v) := by
  have h : Statement (.ldpoly 0) := by
    unfold Statement
    decide
  exact h

theorem ldinit (v : Data) : Statement (.ldinit v) := by
  have h : Statement (.ldinit 0) := by
    unfold Statement
    decide
  exact h

theorem ldxor (v : Data) : Statement (.ldxor v) := by
  have h : Statement (.ldxor 0) := by
    unfold Statement
    decide
  exact h

theorem start : Statement .start := by
  unfold Statement
  decide

theorem finish : Statement .finish := by
  unfold Statement
  decide

theorem configure (w : BitVec 7) (ri ro : Bool) : Statement (.configure w ri ro) := by
  have h : ∀ w : BitVec 7, ∀ ri ro : Bool, Statement (.configure w ri ro) := by
    unfold Statement
    decide
  exact h w ri ro

theorem byte (b : Byte) : Statement (.byte b) := by
  have h : ∀ b : Byte, Statement (.byte b) := by
    unfold Statement
    decide
  exact h b

theorem reflect (v : Data) (n : BitVec 7) : Statement (.reflect v n) := by
  have h : ∀ n : BitVec 7, Statement (.reflect 0 n) := by
    unfold Statement
    decide
  exact h n

end Sys2Proof.Laws.EncodeWellFormed
end

