-- ==== Sys2Proof/Laws/Step.lean ====
section
/-! SUPPORT. What serving the port and performing a command come to. -/

namespace Sys2Proof.Machine

/-- A step with nothing at the port leaves the state as it is. -/
theorem step_idle {s : State} (h : s.port = []) : step s = .next s := by
  simp [step, serve, h]

/-- A step lets the caller's next event happen. -/
theorem step_event {s : State} {e : PortEvent} {es : List PortEvent} (h : s.port = e :: es) :
    step s = handle e (s.withPort es) := by
  simp [step, serve, h]

/-- A command is performed as its instruction, or fails with ILLEGAL. -/
theorem perform_eq (c : Command) (s : State) :
    perform c s = match (decode c).instr? with
      | some i => exec i s
      | none => .next (s.fail .illegal) := by
  unfold perform
  cases decode c <;> rfl

theorem perform_instr {c : Command} {i : Instr} (h : decode c = .instr i) (s : State) : perform c s = exec i s := by
  simp [perform, h]

/-- No command word faults or is refused, if no instruction does. -/
theorem perform_cases {c : Command} {s t : State} (h : perform c s = .next t) :
    (∃ i, decode c = .instr i ∧ exec i s = .next t) ∨ ((decode c).instr? = none ∧ t = s.fail .illegal) := by
  unfold perform at h
  split at h
  · exact .inl ⟨_, ‹_›, h⟩
  all_goals
    cases h
    simp_all [Decoded.instr?]

/-- All that one step can do: hold still, perform the next command, or reset. -/
theorem step_cases {s t : State} (h : step s = .next t) :
    (s.port = [] ∧ t = s) ∨
    (∃ c es, s.port = .command c :: es ∧ perform c (s.withPort es) = .next t) ∨
    (∃ e es, s.port = e :: es ∧ (∀ c, e ≠ .command c) ∧ t = (s.withPort es).assertReset) := by
  unfold step serve at h
  split at h
  · cases h
    exact .inl ⟨‹_›, rfl⟩
  · rename_i e es hp
    cases e with
    | command c => exact .inr (.inl ⟨c, es, hp, h⟩)
    | reset =>
      cases h
      exact .inr (.inr ⟨_, es, hp, by simp, rfl⟩)
    | resetDuring c =>
      cases h
      exact .inr (.inr ⟨_, es, hp, by simp, rfl⟩)

end Sys2Proof.Machine
end

