-- ==== Sys2Proof/Laws/Run.lean ====
section
/-! SUPPORT. Runs of several steps: they compose, they are `core`'s runs, and one command is one step of them. -/

namespace Sys2Proof.Machine

@[simp] theorem runSteps_zero (s : State) : runSteps 0 s = .next s := rfl

theorem runSteps_succ_of_step {s t : State} (h : step s = .next t) (k : Nat) : runSteps (k + 1) s = runSteps k t := by
  simp [runSteps, h]

/-- A run in two parts. -/
theorem runSteps_add {s t : State} {j : Nat} (h : runSteps j s = .next t) (k : Nat) :
    runSteps (j + k) s = runSteps k t := by
  induction j generalizing s with
  | zero =>
    cases h
    rw [Nat.zero_add]
  | succ j ih =>
    rw [show j + 1 + k = (j + k) + 1 by omega]
    cases hs : step s with
    | next u =>
      rw [runSteps_succ_of_step hs] at h ⊢
      exact ih h
    | fault r => cases r
    | refused r => simp [runSteps, hs] at h

/-- A command at the head of the port is the run's next step. -/
theorem runSteps_command {s t : State} {c : Command} {i : Instr} {es : List PortEvent}
    (hp : s.port = .command c :: es) (hd : decode c = .instr i) (ht : exec i (s.withPort es) = .next t) (k : Nat) :
    runSteps (k + 1) s = runSteps k t :=
  runSteps_succ_of_step (by rw [step_event hp, handle, perform_instr hd, ht]) k

/-- The host's run takes one step and goes on. -/
theorem core_run_of_next {M : Host.Core} {s t : M.State} (h : M.step s = .next t) (k : Nat) :
    M.run (k + 1) s = M.run k t := by
  rw [Host.Core.run, h]

/-- The host's run stops where a step is refused. -/
theorem core_run_of_refused {M : Host.Core} {s : M.State} {r : M.Refusal} (h : M.step s = .refused r) (k : Nat) :
    M.run (k + 1) s = .refused r := by
  rw [Host.Core.run, h]

/-- `runSteps` is the run of the host's interface. -/
theorem runSteps_eq_core_run (k : Nat) (s : State) : runSteps k s = Host.Core.run core k s := by
  induction k generalizing s with
  | zero => rfl
  | succ k ih =>
    cases hs : step s with
    | next t => exact ((runSteps_succ_of_step hs k).trans (ih t)).trans (core_run_of_next (M := core) hs k).symm
    | fault r => cases r
    | refused r =>
      have h : runSteps (k + 1) s = .refused r := by simp [runSteps, hs]
      exact h.trans (core_run_of_refused (M := core) hs k).symm

end Sys2Proof.Machine
end

