-- ==== Sys2Proof/Tests/Slice0.lean ====
section
/-! SUPPORT. Tests against the spec's own vectors (spec/95_test_vectors.md) and formats (spec/30_encoding.md), and a
concrete witness of the hypotheses of every statement that has some. -/

namespace Sys2Proof.Tests

open Sys2Proof.Machine

/-- The next state an outcome holds. -/
def next? : Host.Outcome State Fault Refusal → Option State
  | .next t => some t
  | .fault _ => none
  | .refused _ => none

/-- State A of table T8: the toy configuration, idle. -/
def stateA : State := { State.reset with spoly := 0x58, cfgv := true, cw := 8, cpoly := 0x58 }

/-- State B of table T8: state A, then START and BYTE 0xE5. -/
def stateB : State := { stateA with busy := true, rem := 0x40 }

/-- The state after one command word is issued to `s`. -/
def issued (cmd : CmdWord) (data : Data) (s : State) : Option State := next? (step (s.present (.command ⟨cmd, data⟩)))

/-! ### Well-formedness: each check refuses an ill-formed term -/

/-- Reserved bits of every format, and an opcode of no row (R59, R61 to R63; table T7). -/
theorem test_illFormed_words :
    ([0x0000, 0x1800, 0x2001, 0x3400, 0x4208, 0x5001, 0x6100, 0x7800, 0x8080, 0x9000, 0xFFFF] : List CmdWord).all
      (fun w => !(Command.wellFormed ⟨w, 0⟩)) = true := by decide

theorem test_wellFormed_words :
    ([0x1000, 0x2000, 0x3000, 0x41FF, 0x5000, 0x60FF, 0x7000, 0x807F] : List CmdWord).all
      (fun w => Command.wellFormed ⟨w, 0⟩) = true := by decide

/-- One line an assembler rejects for each check of R68. -/
theorem test_illFormed_lines :
    ([.ldpoly (2 ^ 64), .ldinit (2 ^ 64), .ldxor (2 ^ 64), .configure 128 0 0, .configure 8 2 0, .configure 8 0 2,
      .byte 256, .reflect (2 ^ 64) 0, .reflect 0 128] : List SourceLine).all (fun l => !l.wellFormed) = true := by decide

/-- It need not reject what the block rejects: a `w` of no legal width, an `n` over 64 (R68). -/
theorem test_wellFormed_lines :
    ([.configure 24 1 1, .reflect (2 ^ 64 - 1) 127, .byte 255, .start, .finish] : List SourceLine).all (·.wellFormed) = true := by
  decide

/-! ### Decoding: words written out bit by bit from R59 -/

theorem test_decode_ldpoly : decode ⟨0b0001_000000000000, 0x58⟩ = .instr (.ldpoly 0x58) := by decide
theorem test_decode_ldinit : decode ⟨0b0010_000000000000, 0xFFFF⟩ = .instr (.ldinit 0xFFFF) := by decide
theorem test_decode_ldxor : decode ⟨0b0011_000000000000, 1⟩ = .instr (.ldxor 1) := by decide
/-- `ro` = 1, `ri` = 0, `w` = 16: the two flags are not swapped. -/
theorem test_decode_configure : decode ⟨0b0100_000_1_0_0010000, 0⟩ = .instr (.configure 16 false true) := by decide
theorem test_decode_start : decode ⟨0b0101_000000000000, 9⟩ = .instr .start := by decide
theorem test_decode_byte : decode ⟨0b0110_0000_11100101, 0⟩ = .instr (.byte 0xE5) := by decide
theorem test_decode_finish : decode ⟨0b0111_000000000000, 0⟩ = .instr .finish := by decide
theorem test_decode_reflect : decode ⟨0b1000_00000_1000001, 7⟩ = .instr (.reflect 7 65) := by decide
theorem test_decode_illegal :
    decode ⟨0x0000, 0⟩ = .illegalOpcode ∧ decode ⟨0x9000, 0⟩ = .illegalOpcode ∧ decode ⟨0xF000, 0⟩ = .illegalOpcode ∧
    decode ⟨0x4E08, 0⟩ = .reservedBit ∧ decode ⟨0x8080, 1⟩ = .reservedBit := by decide
/-- The table's own numbering of the bits: the command word is bits 15 to 0, the data word 0. -/
theorem test_decodeTableWord : decodeTableWord 16 0x41A0 = some (.configure 32 true true) ∧ decodeTableWord 16 0x9000 = none := by
  decide
theorem test_withFetchWord_runs : (next? (step (State.reset.withFetchWord 16 0x4008))).map (·.status) = some 0x20 := by decide

/-! ### The functions (tables T1 to T5) -/

theorem test_reflect_B7_B13_B16 :
    reflect 0xE5 8 = 0xA7 ∧ reflect 0x4C11DB7 32 = 0xEDB88320 ∧ reflect 0x0123456789ABCDEF 64 = 0xF7B3D591E6A2C480 := by decide
theorem test_reflect_B2_B9_B19 :
    reflect 0xFFFFFFFFFFFFFFFF 0 = 0 ∧ reflect 0x1FF 8 = 0xFF ∧ reflect 0xB 4 = 0xD := by decide
theorem test_divstep_V4_V7_V10 :
    divstep 8 0x58 0xFF = 0xA6 ∧ divstep 16 0x1021 0xFFFF = 0xEFDF ∧
    divstep 64 0x42F0E1EBA9EA3693 0x8000000000000000 = 0x42F0E1EBA9EA3693 := by decide
theorem test_fold_F1_F5_F8 :
    fold 8 0x58 false 0 0xE5 = 0x40 ∧ fold 32 0x4C11DB7 true 0xFFFFFFFF 0x31 = 0x1208C43E ∧
    fold 64 0x42F0E1EBA9EA3693 true 0xFFFFFFFFFFFFFFFF 0x01 = 0x93F9FC194C483ECA := by decide +kernel
theorem test_fold_F10_F11 : fold 8 0x1 false 0xAB 0 = 0xAB ∧ fold 16 0x1021 false 0xF01F 0 = 0xF01F := by decide +kernel
theorem test_finalize_Z1_Z4_Z6 :
    finalize 32 0xFFFFFFFF true 0x9B63D02C = 0xCBF43926 ∧ finalize 16 0 true 0x5349 = 0x92CA ∧
    finalize 8 0xFF true 0x40 = 0xFD := by decide
theorem test_computeCrc_K1 :
    computeCrc 32 0x4C11DB7 0xFFFFFFFF 0xFFFFFFFF true true [0x31, 0x32, 0x33, 0x34, 0x35, 0x36, 0x37, 0x38, 0x39] = 0xCBF43926 := by
  decide +kernel
theorem test_computeCrc_K3 : computeCrc 16 0x1021 0xFFFF 0 false false [0x31, 0x32, 0x33, 0x34] = 0x5349 := by decide +kernel
theorem test_computeCrc_K10 :
    computeCrc 64 0x42F0E1EBA9EA3693 0xFFFFFFFFFFFFFFFF 0xFFFFFFFFFFFFFFFF true true
      [0x31, 0x32, 0x33, 0x34, 0x35, 0x36, 0x37, 0x38, 0x39] = 0x995DC9BBDF1939FA := by
  decide +kernel
theorem test_computeCrc_K14_K16 :
    computeCrc 16 0x1021 0x1234 0xFF false true [] = 0xD348 ∧ computeCrc 32 0 0xFFFFFFFF 0 false false [1, 2, 3, 4, 5] = 0 := by
  decide +kernel

/-! ### The commands (tables T6 to T8), each one step -/

/-- X2: LDPOLY. -/
theorem test_ldpoly_X2 : (issued 0x1000 0x58 State.reset).map (fun t => (t.status, t.spoly)) = some (0x00, 0x58) := by decide
/-- Q16: LDPOLY during a computation changes SPOLY alone. -/
theorem test_ldpoly_Q16 :
    (issued 0x1000 0x7 stateB).map (fun t => (t.status, t.spoly, t.cpoly, t.rem)) = some (0x60, 0x7, 0x58, 0x40) := by decide
theorem test_ldinit : (issued 0x2000 0xFFFF State.reset).map (fun t => (t.sinit, t.spoly, t.sxor)) = some (0xFFFF, 0, 0) := by decide
theorem test_ldxor : (issued 0x3000 0xFF State.reset).map (fun t => (t.sxor, t.spoly, t.sinit)) = some (0xFF, 0, 0) := by decide
/-- S1 and S13. -/
theorem test_configure_S1_S13 :
    (issued 0x4008 0 { State.reset with spoly := 0x58 }).map (fun t => (t.status, t.cpoly)) = some (0x20, 0x58) ∧
    (issued 0x4010 0 { State.reset with spoly := 0x10000 }).map (·.status) = some 0x13 := by decide
/-- Q5 and Q15: the same bad width, idle and during a computation. -/
theorem test_configure_Q5_Q15 :
    (issued 0x4018 0 stateA).map (·.status) = some 0x13 ∧ (issued 0x4018 0 stateB).map (·.status) = some 0x72 := by decide
/-- Q1 and X10. -/
theorem test_start_Q1_X10 :
    (issued 0x5000 0 stateA).map (fun t => (t.status, t.rem)) = some (0x60, 0) ∧
    (issued 0x5000 0 State.reset).map (·.status) = some 0x12 := by decide
/-- Q11 and X11: ILLEGAL comes before SEQ. -/
theorem test_start_Q11_X11 :
    (issued 0x5000 0 stateB).map (·.status) = some 0x72 ∧ (issued 0x5001 0 State.reset).map (·.status) = some 0x11 := by decide
/-- Q12 and Q2. -/
theorem test_byte_Q12_Q2 :
    (issued 0x6000 0 stateB).map (fun t => (t.status, t.rem)) = some (0x60, 0x68) ∧
    (issued 0x6000 0 stateA).map (·.status) = some 0x32 := by decide
/-- Q13 and Q3. -/
theorem test_finish_Q13_Q3 :
    (issued 0x7000 0 stateB).map (fun t => (t.status, t.result)) = some (0x20, 0x40) ∧
    (issued 0x7000 0 stateA).map (fun t => (t.status, t.result)) = some (0x32, 0) := by decide
/-- Q17 and Q18. -/
theorem test_reflect_Q17_Q18 :
    (issued 0x8008 0xE5 stateB).map (fun t => (t.status, t.rem, t.result)) = some (0x60, 0x40, 0xA7) ∧
    (issued 0x8041 0x1 stateB).map (fun t => (t.status, t.rem, t.result)) = some (0x74, 0x40, 0) := by decide
/-- Q20: an ILLEGAL word leaves a computation alone. -/
theorem test_illegal_Q20 :
    (issued 0x4208 0 stateB).map (fun t => (t.status, t.rem, t.cpoly)) = some (0x71, 0x40, 0x58) := by decide
/-- Reset wins over a command under way (R107). -/
theorem test_reset_during :
    (next? (step (stateB.present (.resetDuring ⟨0x1000, 7⟩)))).map (fun t => (t.status, t.spoly)) = some (0x00, 0) := by decide
theorem test_idle : next? (step stateB) = some stateB := by decide

/-! ### The assembler (R68 to R70) -/

theorem test_asm_configure :
    assembleText ["  CONFIGURE 32, 0x1, 0b1 ; CRC-32".toList] = some [⟨0x41A0, 0⟩] := by decide
theorem test_asm_reflect :
    assembleText ["REFLECT 0x04C11DB7, 32".toList, "; nothing".toList] = some [⟨0x8020, 0x04C11DB7⟩] := by decide
theorem test_asm_compute_text :
    assembleText ["COMPUTE \"1;4\"".toList] = some [⟨0x5000, 0⟩, ⟨0x6031, 0⟩, ⟨0x603B, 0⟩, ⟨0x6034, 0⟩, ⟨0x7000, 0⟩] := by decide
/-- The first four lines of program P2. -/
theorem test_asm_ccitt :
    assembleText ["CONFIG_CCITT".toList] = some [⟨0x1000, 0x1021⟩, ⟨0x2000, 0xFFFF⟩, ⟨0x3000, 0⟩, ⟨0x4010, 0⟩] := by decide
theorem test_asm_crc32 :
    assembleText ["CONFIG_CRC32".toList] =
      assembleText ["CONFIG 32, 0x04C11DB7, 0xFFFFFFFF, 0xFFFFFFFF, 1, 1".toList] ∧
    (assembleText ["CONFIG_CRC32".toList]).isSome = true := by decide
theorem test_asm_rejects :
    assembleText ["BYTE 256".toList] = none ∧ assembleText ["START 1".toList] = none ∧ assembleText ["NOP".toList] = none := by decide

/-! ### Witnesses: the hypotheses of each statement are met -/

/-- A command of each format decodes. -/
theorem witness_EncodeOfDecodeIsTheWord : decode ⟨0x41A0, 7⟩ = .instr (.configure 32 true true) := by decide
theorem witness_OperandsAreTheirFields :
    decode ⟨0x1000, 5⟩ = .instr (.ldpoly 5) ∧ decode ⟨0x2000, 5⟩ = .instr (.ldinit 5) ∧ decode ⟨0x3000, 5⟩ = .instr (.ldxor 5) ∧
    decode ⟨0x41FF, 0⟩ = .instr (.configure 127 true true) ∧ decode ⟨0x60FF, 0⟩ = .instr (.byte 255) ∧
    decode ⟨0x807F, 5⟩ = .instr (.reflect 5 127) := by decide
/-- Both ends of the range of opcodes. -/
theorem witness_UnusedDataWordIsIgnored :
    (4 ≤ (0x4000 : CmdWord).toNat / 4096 ∧ (0x4000 : CmdWord).toNat / 4096 ≤ 7) ∧
    (4 ≤ (0x7FFF : CmdWord).toNat / 4096 ∧ (0x7FFF : CmdWord).toNat / 4096 ≤ 7) := by decide
/-- The last operand each clause accepts, and the first it rejects. -/
theorem witness_AssembledLinesDecodeToTheirCommands :
    2 ^ 64 - 1 < 2 ^ 64 ∧ (assemble (.ldpoly (2 ^ 64 - 1))).isSome = true ∧ assemble (.ldpoly (2 ^ 64)) = none ∧
    (assemble (.ldinit (2 ^ 64 - 1))).isSome = true ∧ (assemble (.ldxor (2 ^ 64 - 1))).isSome = true ∧
    (assemble (.configure 127 1 1)).isSome = true ∧ assemble (.configure 127 1 2) = none ∧
    (assemble (.byte 255)).isSome = true ∧ assemble (.byte 256) = none ∧
    (assemble (.reflect (2 ^ 64 - 1) 127)).isSome = true ∧ assemble (.reflect 0 128) = none := by decide
theorem witness_StepRunsTheDecodedCommand :
    (State.reset.present (.command ⟨0x60E5, 0⟩)).port = .command ⟨0x60E5, 0⟩ :: [] ∧ decode ⟨0x60E5, 0⟩ = .instr (.byte 0xE5) := by
  decide
theorem witness_IllegalOpcodeFailsWithNoOtherEffect :
    (0x0FFF : CmdWord).toNat / 4096 = 0 ∧ 9 ≤ (0x9000 : CmdWord).toNat / 4096 ∧ 9 ≤ (0xFFFF : CmdWord).toNat / 4096 := by decide
/-- One reserved bit at each end of each format's reserved field. -/
theorem witness_ReservedBitFailsWithNoOtherEffect :
    (0x1800 : CmdWord).toNat / 4096 ∈ [1, 2, 3, 5, 7] ∧ (0x1800 : CmdWord).toNat % 2 ^ 12 ≠ 0 ∧
    (0x7001 : CmdWord).toNat / 4096 ∈ [1, 2, 3, 5, 7] ∧ (0x7001 : CmdWord).toNat % 2 ^ 12 ≠ 0 ∧
    (0x4200 : CmdWord).toNat / 4096 = 4 ∧ (0x4200 : CmdWord).toNat / 2 ^ 9 % 2 ^ 3 ≠ 0 ∧
    (0x6100 : CmdWord).toNat / 4096 = 6 ∧ (0x6100 : CmdWord).toNat / 2 ^ 8 % 2 ^ 4 ≠ 0 ∧
    (0x8080 : CmdWord).toNat / 4096 = 8 ∧ (0x8080 : CmdWord).toNat / 2 ^ 7 % 2 ^ 5 ≠ 0 := by decide
theorem witness_ResetStepGivesResetValues :
    (stateB.present .reset).port = .reset :: [] ∧
    (stateB.present (.resetDuring ⟨0x5000, 0⟩)).port = .resetDuring ⟨0x5000, 0⟩ :: [] := by decide
theorem witness_IdleStepHoldsTheState : stateB.port = [] := by decide

/-- `perform` answers a next state: a success, and a failure with each code. -/
theorem witness_perform_answers :
    (next? (perform ⟨0x1000, 5⟩ stateA)).map (·.err) = some 0 ∧ (next? (perform ⟨0x0000, 5⟩ stateA)).map (·.err) = some 1 ∧
    (next? (perform ⟨0x5000, 5⟩ stateB)).map (·.err) = some 2 ∧ (next? (perform ⟨0x4018, 5⟩ stateA)).map (·.err) = some 3 ∧
    (next? (perform ⟨0x8041, 5⟩ stateA)).map (·.err) = some 4 := by decide
theorem witness_StatusIsTheViewOfItsFields : ∃ t, perform ⟨0x4018, 0⟩ stateA = .next t ∧ t.err = 3 := ⟨_, rfl, rfl⟩
theorem witness_ErrorCodeByItsCause :
    (∃ t, perform ⟨0x8041, 0⟩ stateA = .next t ∧ t.err = 4) ∧
    (∃ t, perform ⟨0x4018, 0⟩ stateB = .next t ∧ t.err = 2 ∧ t.cfgv = true) := ⟨⟨_, rfl, rfl⟩, ⟨_, rfl, rfl, rfl⟩⟩
theorem witness_FailingCommandChangesOnlyItsReport : ∃ t, perform ⟨0x4018, 0⟩ stateA = .next t ∧ t.err ≠ 0 :=
  ⟨_, rfl, by decide⟩
theorem witness_StickyIsSetByFailureAndClearedOnlyByReset :
    (∃ t, perform ⟨0x9000, 0⟩ stateA = .next t ∧ t.err ≠ 0) ∧ PortEvent.isReset .reset = true ∧
    (stateB.present .reset).port = .reset :: [] := ⟨⟨_, rfl, by decide⟩, rfl, rfl⟩
/-- Every register that some command writes is written by one. -/
theorem witness_RegistersAreWrittenOnlyByTheirCommands :
    (∃ t, exec (.ldpoly 7) stateA = .next t ∧ t.spoly ≠ stateA.spoly) ∧
    (∃ t, exec (.ldinit 7) stateA = .next t ∧ t.sinit ≠ stateA.sinit) ∧
    (∃ t, exec (.ldxor 7) stateA = .next t ∧ t.sxor ≠ stateA.sxor) ∧
    (∃ t, exec (.configure 16 true true) stateA = .next t ∧ t.cw ≠ stateA.cw ∧ t.crefin ≠ stateA.crefin) ∧
    (∃ t, exec .start stateA = .next t ∧ t.busy ≠ stateA.busy) ∧
    (∃ t, exec (.byte 0) stateB = .next t ∧ t.rem ≠ stateB.rem) ∧
    (∃ t, exec .finish stateB = .next t ∧ t.result ≠ stateB.result) ∧
    (∃ t, exec (.reflect 1 65) stateB = .next t ∧ t.sticky ≠ stateB.sticky) :=
  ⟨⟨_, rfl, by decide⟩, ⟨_, rfl, by decide⟩, ⟨_, rfl, by decide⟩, ⟨_, rfl, by decide, by decide⟩, ⟨_, rfl, by decide⟩,
    ⟨_, rfl, by decide⟩, ⟨_, rfl, by decide⟩, ⟨_, rfl, by decide⟩⟩
theorem witness_ResultIsWrittenOnlyBySuccess :
    (∃ t, perform ⟨0x7000, 0⟩ stateB = .next t ∧ t.result ≠ stateB.result ∧ t.err = 0) ∧ stateB.Inv ∧
    decode ⟨0x7000, 0⟩ = .instr .finish ∧
    (∃ t, perform ⟨0x8040, 1⟩ stateB = .next t ∧ t.err = 0) ∧ decode ⟨0x8040, 1⟩ = .instr (.reflect 1 64) :=
  ⟨⟨_, rfl, by decide, rfl⟩, by decide, by decide, ⟨_, rfl, rfl⟩, by decide⟩
theorem witness_RepeatedCommandLeavesTheSameState :
    (∃ t, perform ⟨0x4018, 0⟩ stateA = .next t) ∧ decode ⟨0x4018, 0⟩ = .instr (.configure 24 false false) := ⟨⟨_, rfl⟩, by decide⟩

/-- The ends of the counts of the reflector. -/
theorem witness_ReflectReversesTheLowBits : 0 ≤ 64 ∧ 64 ≤ 64 ∧ 63 < 64 := by decide
theorem witness_ReflectIgnoresHighBits : 0 ≤ 64 ∧ 64 ≤ 64 := by decide
theorem witness_ReflectIsAnInvolution : 64 ≤ 64 ∧ (0xFFFFFFFFFFFFFFFF : Data).toNat < 2 ^ 64 ∧ (0 : Data).toNat < 2 ^ 0 := by decide
theorem witness_ReflectCommandDeliversOrFailsWithArg :
    (64 : BitVec 7).toNat ≤ 64 ∧ (0x8041 : CmdWord).toNat / 4096 = 8 := by decide
theorem witness_ReflectSparesConfigurationAndComputation :
    (∃ t, exec (.reflect 5 64) stateA = .next t) ∧ (∃ t, exec (.reflect 5 64) stateB = .next t) := ⟨⟨_, rfl⟩, ⟨_, rfl⟩⟩
theorem witness_StagingWords :
    (0x1001 : CmdWord).toNat / 4096 = 1 ∧ (0x2000 : CmdWord).toNat / 4096 = 2 ∧ (0x3800 : CmdWord).toNat / 4096 = 3 := by decide
/-- The smallest and the largest legal width, with the largest value that fits. -/
theorem witness_ConfigureCommitsAcceptedParameters :
    stateA.busy = false ∧ (8 : BitVec 7).toNat ∈ [8, 16, 32, 64] ∧ (64 : BitVec 7).toNat ∈ [8, 16, 32, 64] ∧
    (0xFF : Data).toNat < 2 ^ (8 : BitVec 7).toNat ∧ (0xFFFFFFFFFFFFFFFF : Data).toNat < 2 ^ (64 : BitVec 7).toNat ∧
    stateA.spoly.toNat < 2 ^ (8 : BitVec 7).toNat ∧ stateA.sinit.toNat < 2 ^ (8 : BitVec 7).toNat ∧
    stateA.sxor.toNat < 2 ^ (8 : BitVec 7).toNat := by decide
theorem witness_ConfigureWordTestsThenCommits :
    (0x41A0 : CmdWord).toNat / 4096 = 4 ∧ (32 : BitVec 7).toNat = (0x41A0 : CmdWord).toNat % 2 ^ 7 := by decide
theorem witness_RejectedConfigurationRefusesStart :
    stateA.busy = false ∧ ¬ (24 : BitVec 7).toNat ∈ [8, 16, 32, 64] ∧ State.reset.cfgv = false ∧
    (∃ t, perform ⟨0x4008, 0⟩ State.reset = .next t ∧ t.cfgv = true) := by
  exact ⟨rfl, by decide, rfl, ⟨_, rfl, rfl⟩⟩
theorem witness_ConfigurationIsFixedWhileBusy : stateB.busy = true ∧ ∃ t, perform ⟨0x4008, 0⟩ stateB = .next t := ⟨rfl, _, rfl⟩

/-- The divider's functions at W = 8 and W = 64. -/
theorem witness_BitStepIsShiftAndConditionalXor :
    8 ≤ 8 ∧ 64 ≤ 64 ∧ (0xFF : Data).toNat < 2 ^ 8 ∧ (0xFFFFFFFFFFFFFFFF : Data).toNat < 2 ^ 64 := by decide
theorem witness_MaskingBeforeOrAfterTheXorAgrees : 8 ≤ 8 ∧ 8 ≤ 64 ∧ (0x58 : Data).toNat < 2 ^ 8 ∧ (0xFF : Data).toNat < 2 ^ 8 := by decide
theorem witness_ByteFoldIsEightBitSteps : 8 ≤ 16 ∧ 16 ≤ 64 ∧ (0xFFFF : Data).toNat < 2 ^ 16 := by decide
theorem witness_ByteIsFoldedMostSignificantBitFirst : 8 ≤ 64 ∧ 64 ≤ 64 ∧ 63 < 64 := by decide
theorem witness_ZeroPolynomialShiftsByEight : 8 ≤ 8 ∧ 8 ≤ 64 ∧ (0xAB : Data).toNat < 2 ^ 8 := by decide
theorem witness_FinalStepXorsThenReflects : 8 ≤ 32 ∧ 32 ≤ 64 ∧ (0x9B63D02C : Data).toNat < 2 ^ 32 := by decide
theorem witness_EmptyMessageGivesInitXorFinal :
    8 ≤ 16 ∧ 16 ≤ 64 ∧ (0x1234 : Data).toNat < 2 ^ 16 ∧ (0xFF : Data).toNat < 2 ^ 16 := by decide
theorem witness_ChecksumFitsItsWidth : 8 ≤ 8 ∧ 8 ≤ 64 := by decide
theorem witness_ChecksumIsThePolynomialRemainder : 8 ≤ 8 ∧ 8 ≤ 64 ∧ (0x58 : Data).toNat < 2 ^ 8 := by decide

theorem witness_StartSeedsTheRemainder : stateA.cfgv = true ∧ stateA.busy = false ∧ (0x5001 : CmdWord).toNat / 4096 = 5 := by decide
theorem witness_ByteFoldsIntoTheRemainder : stateB.busy = true ∧ (0x60FF : CmdWord).toNat / 4096 = 6 := by decide
theorem witness_FinishDeliversTheChecksum : stateB.busy = true ∧ (0x7000 : CmdWord).toNat / 4096 = 7 := by decide

theorem witness_EveryStepKeepsTheInvariant :
    (stateB.present (.command ⟨0x60E5, 0⟩)).Inv ∧ ∃ t, step (stateB.present (.command ⟨0x60E5, 0⟩)) = .next t :=
  ⟨by decide, _, rfl⟩
/-- Two bytes, and something left at the port afterwards. -/
theorem witness_ComputationSequenceComputesTheCrc :
    stateA.cfgv = true ∧ stateA.busy = false ∧
    (stateA.withPort (issue (computation [0xE5, 0x01]) ++ [.reset])).port = issue (computation [0xE5, 0x01]) ++ [.reset] :=
  ⟨rfl, rfl, rfl⟩
theorem witness_SparingCommandsDoNotChangeTheChecksum :
    stateA.cfgv = true ∧ stateA.busy = false ∧
    (∀ i ∈ [Instr.ldpoly 7, .byte 0xE5, .reflect 1 65], sparesComputation i = true ∨ ∃ b, i = .byte b) ∧
    (stateA.withPort (issue (.start :: ([.ldpoly 7, .byte 0xE5, .reflect 1 65] ++ [.finish])) ++ [PortEvent.reset])).port =
      issue (.start :: ([.ldpoly 7, .byte 0xE5, .reflect 1 65] ++ [.finish])) ++ [PortEvent.reset] := by
  refine ⟨rfl, rfl, ?_, rfl⟩
  simp [sparesComputation]
theorem witness_AcceptedConfigurationCannotFail :
    stateA.cfgv = true ∧ stateA.busy = false ∧ 1 ≤ 1 ∧ 1 ≤ ([] : List Byte).length + 2 ∧ 2 ≤ ([] : List Byte).length + 2 ∧
    (stateA.withPort (issue (computation []) ++ [PortEvent.reset])).port = issue (computation []) ++ [PortEvent.reset] := by decide
theorem witness_ConfigThenComputeDeliversTheChecksum :
    State.reset.busy = false ∧ 16 ∈ [8, 16, 32, 64] ∧ 0x1021 < 2 ^ 16 ∧ 0xFFFF < 2 ^ 16 ∧ 0 < 2 ^ 16 ∧ 0 ≤ 1 ∧ 1 ≤ 1 ∧
    (pseudoConfig 16 0x1021 0xFFFF 0 0 1 ++ pseudoCompute ([0x31, 0xFF].map (BitVec.toNat (w := 8)))).mapM assemble =
      some [⟨0x1000, 0x1021⟩, ⟨0x2000, 0xFFFF⟩, ⟨0x3000, 0⟩, ⟨0x4110, 0⟩, ⟨0x5000, 0⟩, ⟨0x6031, 0⟩, ⟨0x60FF, 0⟩, ⟨0x7000, 0⟩] ∧
    ∀ cs, (State.reset.withPort (issueWords cs ++ [PortEvent.reset])).port = issueWords cs ++ [PortEvent.reset] :=
  ⟨rfl, by decide, by decide, by decide, by decide, by decide, by decide, by decide, fun _ => rfl⟩
/-- Two states that agree in the configuration alone. -/
theorem witness_ChecksumDependsOnlyOnConfigurationAndMessage :
    stateA.cfgv = true ∧ stateA.busy = false ∧ { stateA with result := 9, rem := 5, spoly := 1 }.cfgv = true ∧
    { stateA with result := 9, rem := 5, spoly := 1 }.busy = false ∧
    { stateA with result := 9, rem := 5, spoly := 1 }.cw = stateA.cw ∧
    { stateA with result := 9, rem := 5, spoly := 1 }.cpoly = stateA.cpoly ∧
    (∃ t, runSteps 2 (stateA.withPort (issue (computation []) ++ [])) = .next t) ∧
    (∃ t, runSteps 2 ({ stateA with result := 9, rem := 5, spoly := 1 }.withPort (issue (computation []) ++ [PortEvent.reset])) = .next t) :=
  ⟨rfl, rfl, rfl, rfl, rfl, rfl, ⟨_, rfl⟩, ⟨_, rfl⟩⟩
theorem witness_RunEndingErrorFreeHadNoFailure :
    (stateA.present (.command ⟨0x5000, 0⟩)).Inv ∧
    (∀ e ∈ (stateA.present (.command ⟨0x5000, 0⟩)).port.take 1, e.isReset = false) ∧
    (∃ t, runSteps 1 (stateA.present (.command ⟨0x5000, 0⟩)) = .next t ∧ t.ErrorFree) := by
  refine ⟨by decide, by decide, ⟨_, rfl, rfl⟩⟩
theorem witness_InstancesDoNotAffectEachOther :
    stepAt 1 [stateA, stateB.present (.command ⟨0x6000, 0⟩)] =
      some [stateA, { stateB with rem := 0x68 }] := by decide

end Sys2Proof.Tests
end

section
/-! SUPPORT. What a command can do, said once: the effect of each command that succeeds, with the condition of its rule,
and the two shapes of a failure. -/

namespace Sys2Proof.Machine

/-- What a command that succeeds has written before its last effect `ERR <- OK`: `Effect s i u` when `i`, run from `s`
with the condition of its rule met, writes `u`. -/
inductive Effect (s : State) : Instr → State → Prop where
  | ldpoly (v : Data) : Effect s (.ldpoly v) (s.stagePoly v)
  | ldinit (v : Data) : Effect s (.ldinit v) (s.stageInit v)
  | ldxor (v : Data) : Effect s (.ldxor v) (s.stageXor v)
  | configure (w : BitVec 7) (ri ro : Bool) (idle : s.busy = false) (legal : legalWidth w = true)
      (fit : s.stagedFit w = true) : Effect s (.configure w ri ro) (s.commit w ri ro)
  | start (valid : s.cfgv = true) (idle : s.busy = false) : Effect s .start s.seed
  | byte (b : Byte) (busy : s.busy = true) :
      Effect s (.byte b) (s.writeRem (fold s.cw.toNat s.cpoly s.crefin s.rem b))
  | finish (busy : s.busy = true) :
      Effect s .finish (s.deliver (finalize s.cw.toNat s.cxor s.crefout s.rem))
  | reflect (v : Data) (n : BitVec 7) (inRange : countInRange n = true) :
      Effect s (.reflect v n) (s.writeResult (reflect v n.toNat))

/-- An instruction succeeds with its effect, fails and changes only its report, or is a CONFIGURE that a check rejects
while the block is idle. -/
theorem exec_cases {i : Instr} {s t : State} (h : exec i s = .next t) :
    (∃ u, Effect s i u ∧ t = u.succeed) ∨ (∃ e, t = s.fail e) ∨
      (s.busy = false ∧ (∃ w ri ro, i = .configure w ri ro) ∧ t = s.invalidate.fail .cfg) := by
  cases i with
  | ldpoly v => cases h; exact .inl ⟨_, .ldpoly v, rfl⟩
  | ldinit v => cases h; exact .inl ⟨_, .ldinit v, rfl⟩
  | ldxor v => cases h; exact .inl ⟨_, .ldxor v, rfl⟩
  | configure w ri ro =>
    obtain ⟨-, ht⟩ | ⟨idle, legal, fit, ht⟩ | ⟨idle, -, ht⟩ := execConfigure_cases h
    · exact .inr (.inl ⟨_, ht⟩)
    · exact .inl ⟨_, .configure w ri ro idle legal fit, ht⟩
    · exact .inr (.inr ⟨idle, ⟨w, ri, ro, rfl⟩, ht⟩)
  | start =>
    obtain ⟨-, ht⟩ | ⟨valid, idle, ht⟩ := execStart_cases h
    · exact .inr (.inl ⟨_, ht⟩)
    · exact .inl ⟨_, .start valid idle, ht⟩
  | byte b =>
    obtain ⟨busy, ht⟩ | ⟨-, ht⟩ := execByte_cases h
    · exact .inl ⟨_, .byte b busy, ht⟩
    · exact .inr (.inl ⟨_, ht⟩)
  | finish =>
    obtain ⟨busy, ht⟩ | ⟨-, ht⟩ := execFinish_cases h
    · exact .inl ⟨_, .finish busy, ht⟩
    · exact .inr (.inl ⟨_, ht⟩)
  | reflect v n =>
    obtain ⟨inRange, ht⟩ | ⟨-, ht⟩ := execReflect_cases h
    · exact .inl ⟨_, .reflect v n inRange, ht⟩
    · exact .inr (.inl ⟨_, ht⟩)

/-- The same for a command word: ILLEGAL is one more failure that changes only its report. -/
theorem perform_outcome {c : Command} {s t : State} (h : perform c s = .next t) :
    (∃ i u, decode c = .instr i ∧ Effect s i u ∧ t = u.succeed) ∨ (∃ e, t = s.fail e) ∨
      (s.busy = false ∧ t = s.invalidate.fail .cfg) := by
  obtain ⟨i, hi, he⟩ | ⟨-, ht⟩ := perform_cases h
  · obtain ⟨u, hu, ht⟩ | ht | ⟨idle, -, ht⟩ := exec_cases he
    · exact .inl ⟨i, u, hi, hu, ht⟩
    · exact .inr (.inl ht)
    · exact .inr (.inr ⟨idle, ht⟩)
  · exact .inr (.inl ⟨_, ht⟩)

/-! ### Frames of a successful command -/

theorem Effect.sticky_eq {s u : State} {i : Instr} (h : Effect s i u) : u.sticky = s.sticky := by cases h <;> rfl

theorem Effect.port_eq {s u : State} {i : Instr} (h : Effect s i u) : u.port = s.port := by cases h <;> rfl

/-! ### Error codes -/

@[simp] theorem okCode_eq_zero : okCode = 0#4 := rfl

@[simp] theorem ErrCode.code_ne_zero (e : ErrCode) : e.code ≠ 0#4 := by cases e <;> decide

theorem ErrCode.code_toNat_le (e : ErrCode) : e.code.toNat ≤ 4 := by cases e <;> decide

theorem State.fail_err_ne_zero (e : ErrCode) (s : State) : (s.fail e).err ≠ 0 := e.code_ne_zero

end Sys2Proof.Machine
end

section
/-! SUPPORT. The divider's and the reflector's results fit their width (R71, R89, R91, R92). -/

namespace Sys2Proof.Machine

/-- A reversal of `n` bits has no bit at or above `n` (R71). -/
theorem reflect_lt (v : Data) {n : Nat} (hn : n ≤ 64) : (reflect v n).toNat < 2 ^ n := by
  refine Nat.lt_pow_two_of_testBit _ fun j hj => ?_
  have hout : ¬ (n - n ≤ j ∧ j < n) := by omega
  rw [BitVec.testBit_toNat, reflect, reflectLoop_getLsbD v hn n le_rfl, decide_eq_false hout, Bool.false_and]

theorem divstep_lt {W : Nat} (hW : W ≤ 64) (P r : Data) : (divstep W P r).toNat < 2 ^ W := by
  rw [divstep_eq_and_mask]
  exact and_mask_lt hW _

/-- One bit-step or more leaves a remainder below `2^W`: the last one masks it. -/
theorem divsteps_succ_lt {W : Nat} (hW : W ≤ 64) (P : Data) (k : Nat) (r : Data) :
    (divsteps W P (k + 1) r).toNat < 2 ^ W := by
  induction k generalizing r with
  | zero => exact divstep_lt hW P r
  | succ k ih => exact ih (divstep W P r)

theorem fold_lt {W : Nat} (hW : W ≤ 64) (P : Data) (RI : Bool) (r : Data) (b : Byte) :
    (fold W P RI r b).toNat < 2 ^ W :=
  divsteps_succ_lt hW P 7 _

theorem finalize_lt {W : Nat} (hW : W ≤ 64) (X : Data) (RO : Bool) (r : Data) : (finalize W X RO r).toNat < 2 ^ W := by
  cases RO with
  | false => exact and_mask_lt hW _
  | true => exact reflect_lt _ hW

end Sys2Proof.Machine
end

section
/-! SUPPORT. The invariant is kept by each effect, by each failure and by reset, and so by every step. -/

namespace Sys2Proof.Machine

/-- With STICKY = 0 the last command did not fail (R33). -/
theorem State.Inv.err_eq_zero {s : State} (h : s.Inv) (hfree : s.ErrorFree) : s.err = 0 := by
  obtain ⟨-, -, -, hok⟩ := h
  exact hok hfree

/-- A valid configuration has a width of at most 64 (R26). -/
theorem State.ConfigInv.cw_le {s : State} (h : s.ConfigInv) (valid : s.cfgv = true) : s.cw.toNat ≤ 64 :=
  (legalWidth_bounds (h valid).1).2

/-- Only a commit touches the configuration, and it has checked what it commits (R81, R82). -/
theorem Effect.configInv {s u : State} {i : Instr} (h : Effect s i u) (hc : s.ConfigInv) : u.ConfigInv := by
  cases h with
  | configure w ri ro _ legal fit =>
    obtain ⟨hp, hi, hx⟩ := stagedFit_iff.mp fit
    exact fun _ => ⟨legal, fits_iff.mpr hp, fits_iff.mpr hi, fits_iff.mpr hx⟩
  | _ => exact hc

/-- REM fits because START seeds it with a CINIT that fits and BYTE with a fold (R97); CONFIGURE and FINISH leave the
block idle. -/
theorem Effect.busyInv {s u : State} {i : Instr} (h : Effect s i u) (hc : s.ConfigInv) (hb : s.BusyInv) : u.BusyInv := by
  cases h with
  | configure w ri ro idle => exact fun busy => absurd busy (by simp [idle])
  | start valid =>
    obtain ⟨-, -, hinit, -⟩ := hc valid
    exact fun _ => ⟨valid, hinit⟩
  | byte b busy =>
    have valid := (hb busy).1
    exact fun _ => ⟨valid, fits_iff.mpr (fold_lt (hc.cw_le valid) ..)⟩
  | finish => exact fun busy => absurd busy (by simp)
  | _ => exact hb

theorem State.statusInv_succeed (s : State) : s.succeed.StatusInv := by simp [State.StatusInv]

theorem State.statusInv_fail (e : ErrCode) (s : State) : (s.fail e).StatusInv :=
  ⟨e.code_toNat_le, fun h => absurd h (by simp)⟩

/-- Every command keeps the invariant. -/
theorem perform_inv {c : Command} {s t : State} (hs : s.Inv) (h : perform c s = .next t) : t.Inv := by
  obtain ⟨hc, hb, -⟩ := hs
  obtain ⟨i, u, -, hu, rfl⟩ | ⟨e, rfl⟩ | ⟨idle, rfl⟩ := perform_outcome h
  · exact ⟨hu.configInv hc, hu.busyInv hc hb, u.statusInv_succeed⟩
  · exact ⟨hc, hb, s.statusInv_fail e⟩
  · exact ⟨fun valid => absurd valid (by simp), fun busy => absurd busy (by simp [idle]),
      s.invalidate.statusInv_fail .cfg⟩

theorem State.assertReset_inv (s : State) : s.assertReset.Inv := by simp [State.Inv, State.StatusInv]

/-- Settles O46: CFGV, BUSY, ERR and STICKY are 0 after reset. -/
theorem invariantHoldsAtReset : Obligations.InvariantHoldsAtReset := State.reset.assertReset_inv

/-- Every step keeps the invariant: holding still, a command, or reset. -/
theorem step_inv {s t : State} (hs : s.Inv) (h : step s = .next t) : t.Inv := by
  obtain ⟨-, rfl⟩ | ⟨c, es, -, hp⟩ | ⟨e, es, -, -, rfl⟩ := step_cases h
  · exact hs
  · exact perform_inv (s := s.withPort es) hs hp
  · exact State.assertReset_inv _

/-- Settles O47, from what each command, and reset, does to the three parts of the invariant. -/
theorem everyStepKeepsTheInvariant : Obligations.EveryStepKeepsTheInvariant := fun _ _ => step_inv

end Sys2Proof.Machine
end

section
/-! SUPPORT. STATUS, ERR and STICKY. -/

namespace Sys2Proof.Machine

/-- The value of STATUS, from the places of its fields (R31). -/
theorem State.status_toNat (s : State) :
    s.status.toNat = s.err.toNat ||| (s.sticky.toNat <<< 4) ||| (s.cfgv.toNat <<< 5) ||| (s.busy.toNat <<< 6) := by
  simp only [State.status, BitVec.toNat_append, BitVec.toNat_ofBool, BitVec.toNat_ofNat, Nat.shiftLeft_or_distrib,
    ← Nat.shiftLeft_add]
  simp [Nat.or_assoc, Nat.or_comm]

/-- A flag shifted to bit `n` is bit `n` and no other. -/
theorem testBit_toNat_shiftLeft (b : Bool) (n k : Nat) : (b.toNat <<< n).testBit k = (decide (k = n) && b) := by
  have hplace : (decide (k ≥ n) && decide (k - n = 0)) = decide (k = n) := by
    rw [← Bool.decide_and]
    exact decide_eq_decide.mpr (by omega)
  rw [Nat.testBit_shiftLeft, Nat.testBit_bool_toNat, ← Bool.and_assoc, hplace]

/-- The bits of STATUS above ERR are those of the three flags (R31). -/
theorem State.status_getLsbD (s : State) {k : Nat} (hk : 4 ≤ k) :
    s.status.getLsbD k =
      ((decide (k = 4) && s.sticky) || (decide (k = 5) && s.cfgv) || (decide (k = 6) && s.busy)) := by
  have herr : s.err.toNat.testBit k = false := BitVec.getLsbD_of_ge s.err k hk
  rw [← BitVec.testBit_toNat, status_toNat]
  simp only [Nat.testBit_or, herr, testBit_toNat_shiftLeft, Bool.false_or]

/-- Every command leaves an error code of R103. -/
theorem perform_err_le {c : Command} {s t : State} (h : perform c s = .next t) : t.err.toNat ≤ 4 := by
  obtain ⟨i, u, -, -, rfl⟩ | ⟨e, rfl⟩ | ⟨-, rfl⟩ := perform_outcome h
  · exact Nat.zero_le _
  · exact e.code_toNat_le
  · exact ErrCode.cfg.code_toNat_le

/-- Settles O15: the value and each field of STATUS, by its layout, and ERR, by the error codes there are. -/
theorem statusIsTheViewOfItsFields : Obligations.StatusIsTheViewOfItsFields := by
  refine ⟨State.status_toNat, fun s => ?_, fun _ _ _ => perform_err_le⟩
  have herr : s.status.extractLsb' 0 4 = s.err := BitVec.extractLsb'_append_eq_right
  refine ⟨herr, ?_, ?_, ?_, ?_⟩ <;> simp [State.status_getLsbD, -BitVec.getLsbD_eq_getElem]

/-- Settles O14, field by field. -/
theorem resetStateHasTheResetValues : Obligations.ResetStateHasTheResetValues :=
  ⟨rfl, rfl, rfl, rfl, rfl, rfl, rfl, rfl, rfl⟩

/-- A failing command sets STICKY, and one that succeeds leaves it (R33). -/
theorem perform_sticky {c : Command} {s t : State} (h : perform c s = .next t) :
    t.sticky = true ↔ s.sticky = true ∨ t.err ≠ 0 := by
  obtain ⟨i, u, -, hu, rfl⟩ | ⟨e, rfl⟩ | ⟨-, rfl⟩ := perform_outcome h
  · simp [hu.sticky_eq]
  · simp
  · simp

/-- Either form of reset is the same step (R107, R119). -/
theorem step_reset {s : State} {e : PortEvent} {es : List PortEvent} (hp : s.port = e :: es) (he : e.isReset = true) :
    step s = .next (s.withPort es).assertReset := by
  rw [step_event hp]
  cases e with
  | command c => cases he
  | reset => rfl
  | resetDuring c => rfl

/-- Settles O18: commands by `perform_sticky`, and reset by its value for STICKY. -/
theorem stickyIsSetByFailureAndClearedOnlyByReset : Obligations.StickyIsSetByFailureAndClearedOnlyByReset :=
  ⟨fun _ _ _ => perform_sticky, fun _ _ _ hp he => ⟨_, step_reset hp he, rfl⟩⟩

end Sys2Proof.Machine
end

section
/-! SUPPORT. Which command writes which register, and RESULT. -/

namespace Sys2Proof.Machine

/-- Settles O19, from the effect of each command; a failure changes no register but ERR and STICKY, and CFGV when it is
CONFIGURE's. -/
theorem registersAreWrittenOnlyByTheirCommands : Obligations.RegistersAreWrittenOnlyByTheirCommands := by
  intro i s t h
  obtain ⟨u, hu, rfl⟩ | ⟨e, rfl⟩ | ⟨-, ⟨w, ri, ro, rfl⟩, rfl⟩ := exec_cases h
  · cases hu <;> simp
  · simp
  · simp

/-- Settles O33: the one effect that writes the configuration, and the one failure that clears CFGV, need an idle block. -/
theorem configurationIsFixedWhileBusy : Obligations.ConfigurationIsFixedWhileBusy := by
  intro c s t h busy
  obtain ⟨i, u, -, hu, rfl⟩ | ⟨e, rfl⟩ | ⟨idle, rfl⟩ := perform_outcome h
  · cases hu with
    | configure w ri ro idle => simp [busy] at idle
    | _ => simp
  · simp
  · simp [busy] at idle

/-- Only a FINISH or a REFLECT that succeeds changes RESULT. -/
theorem Effect.result_eq_or {s u : State} {i : Instr} (h : Effect s i u) :
    u.result = s.result ∨ i = .finish ∨ ∃ v n, i = .reflect v n := by
  cases h <;> simp

/-- A FINISH that succeeds delivers a value within the width in use (R92). -/
theorem execFinish_result_lt {s t : State} (hs : s.Inv) (h : execFinish s = .next t) (ok : t.err = 0) :
    t.result.toNat < 2 ^ s.cw.toNat := by
  obtain ⟨hc, hb, -⟩ := hs
  obtain ⟨busy, rfl⟩ | ⟨-, rfl⟩ := execFinish_cases h
  · exact finalize_lt (hc.cw_le (hb busy).1) ..
  · exact absurd ok (s.fail_err_ne_zero _)

/-- A REFLECT of `n` bits that succeeds delivers a value of at most `n` bits (R71). -/
theorem execReflect_result_lt {v : Data} {n : BitVec 7} {s t : State} (h : execReflect v n s = .next t)
    (ok : t.err = 0) : t.result.toNat < 2 ^ n.toNat := by
  obtain ⟨inRange, rfl⟩ | ⟨-, rfl⟩ := execReflect_cases h
  · exact reflect_lt v (countInRange_iff.mp inRange)
  · exact absurd ok (s.fail_err_ne_zero _)

theorem perform_result {c : Command} {s t : State} (h : perform c s = .next t) (hr : t.result ≠ s.result) :
    t.err = 0 ∧ (decode c = .instr .finish ∨ ∃ v n, decode c = .instr (.reflect v n)) := by
  obtain ⟨i, u, hi, hu, rfl⟩ | ⟨e, rfl⟩ | ⟨-, rfl⟩ := perform_outcome h
  · obtain hsame | rfl | ⟨v, n, rfl⟩ := hu.result_eq_or
    · exact absurd hsame hr
    · exact ⟨rfl, .inl hi⟩
    · exact ⟨rfl, .inr ⟨v, n, hi⟩⟩
  · exact absurd rfl hr
  · exact absurd rfl hr

/-- Settles O20: who writes RESULT, and the bound of each of the two writers. -/
theorem resultIsWrittenOnlyBySuccess : Obligations.ResultIsWrittenOnlyBySuccess := by
  intro c s t h
  refine ⟨perform_result h, fun hs hd => ?_, fun v n hd => ?_⟩ <;> rw [perform_instr hd] at h
  · exact execFinish_result_lt hs h
  · exact execReflect_result_lt h

end Sys2Proof.Machine
end

section
/-! SUPPORT. Events and runs: each step takes one event, and without reset STICKY never goes back to 0. -/

namespace Sys2Proof.Machine

theorem perform_port {c : Command} {s t : State} (h : perform c s = .next t) : t.port = s.port := by
  obtain ⟨i, u, -, hu, rfl⟩ | ⟨e, rfl⟩ | ⟨-, rfl⟩ := perform_outcome h
  · exact hu.port_eq
  · rfl
  · rfl

/-- A step takes the next event off the port, if there is one. -/
theorem step_port {s t : State} (h : step s = .next t) : t.port = s.port.tail := by
  obtain ⟨hp, rfl⟩ | ⟨c, es, hp, hc⟩ | ⟨e, es, hp, -, rfl⟩ := step_cases h
  · simp [hp]
  · simp [hp, perform_port hc]
  · simp [hp]

/-- A step that is no reset and ends with STICKY = 0 began with STICKY = 0 (R33). -/
theorem errorFree_of_step {s t : State} (hn : ∀ e es, s.port = e :: es → e.isReset = false)
    (h : step s = .next t) (ht : t.ErrorFree) : s.ErrorFree := by
  obtain ⟨-, rfl⟩ | ⟨c, es, -, hc⟩ | ⟨e, es, hp, he, -⟩ := step_cases h
  · exact ht
  · refine Bool.eq_false_iff.mpr fun hs => ?_
    have hsticky : t.sticky = true := (perform_sticky hc).mpr (.inl hs)
    simp [State.ErrorFree, hsticky] at ht
  · have hreset := hn e es hp
    cases e with
    | command c => exact absurd rfl (he c)
    | _ => cases hreset

/-- The first step of a run that completes. -/
theorem runSteps_succ_cases {s t : State} {k : Nat} (h : runSteps (k + 1) s = .next t) :
    ∃ u, step s = .next u ∧ runSteps k u = .next t := by
  cases hs : step s with
  | next u => exact ⟨u, rfl, (runSteps_succ_of_step hs k).symm.trans h⟩
  | fault r => cases r
  | refused r => simp [runSteps, hs] at h

/-- Settles O53, by induction on the number of steps: the rest of the run had STICKY = 0 from its first state on, so the
first step did not fail either. -/
theorem runEndingErrorFreeHadNoFailure : Obligations.RunEndingErrorFreeHadNoFailure := by
  intro k
  induction k with
  | zero =>
    intro s t hs _ h ht j hj
    obtain rfl : j = 0 := by omega
    cases h
    exact ⟨s, rfl, hs.err_eq_zero ht, ht⟩
  | succ k ih =>
    intro s t hs hn h ht j hj
    obtain ⟨u, hu, hrun⟩ := runSteps_succ_cases h
    have hlater : ∀ e ∈ u.port.take k, e.isReset = false := by
      rw [step_port hu, ← Nat.add_sub_cancel k 1, ← List.tail_take_eq_take_tail]
      exact fun e he => hn e (List.mem_of_mem_tail he)
    have hrest := ih u t (step_inv hs hu) hlater hrun ht
    cases j with
    | zero =>
      obtain ⟨u', hu', -, huFree⟩ := hrest 0 (Nat.zero_le k)
      cases hu'
      have hfree := errorFree_of_step (fun e es hp => hn e (by simp [hp])) hu huFree
      exact ⟨s, rfl, hs.err_eq_zero hfree, hfree⟩
    | succ j =>
      rw [runSteps_succ_of_step hu]
      exact hrest j (by omega)

end Sys2Proof.Machine
end

section
/-! SUPPORT. Each command's answer when its condition is met and when it is not (R76, R83 to R85, R94 to R96), and that
decoding undoes encoding. -/

namespace Sys2Proof.Machine

theorem execConfigure_of_busy {s : State} (busy : s.busy = true) (w : BitVec 7) (ri ro : Bool) :
    execConfigure w ri ro s = .next (s.fail .seq) := if_pos busy

theorem execConfigure_of_accepted {s : State} {w : BitVec 7} (idle : s.busy = false) (legal : legalWidth w = true)
    (fit : s.stagedFit w = true) (ri ro : Bool) :
    execConfigure w ri ro s = .next ((s.commit w ri ro).succeed) := by
  simp [execConfigure, idle, legal, fit]

theorem execConfigure_of_rejected {s : State} {w : BitVec 7} (idle : s.busy = false)
    (bad : (legalWidth w && s.stagedFit w) = false) (ri ro : Bool) :
    execConfigure w ri ro s = .next (s.invalidate.fail .cfg) := by
  simp [execConfigure, idle, bad]

theorem execReflect_of_inRange {n : BitVec 7} (inRange : countInRange n = true) (v : Data) (s : State) :
    execReflect v n s = .next ((s.writeResult (reflect v n.toNat)).succeed) := if_pos inRange

theorem execReflect_of_outOfRange {n : BitVec 7} (outOfRange : countInRange n = false) (v : Data) (s : State) :
    execReflect v n s = .next (s.fail .arg) := by
  simp [execReflect, outOfRange]

theorem execStart_of_ready {s : State} (valid : s.cfgv = true) (idle : s.busy = false) :
    execStart s = .next s.seed.succeed := by
  simp [execStart, valid, idle]

theorem execByte_of_busy {s : State} (busy : s.busy = true) (b : Byte) :
    execByte b s = .next ((s.writeRem (fold s.cw.toNat s.cpoly s.crefin s.rem b)).succeed) := if_pos busy

theorem execFinish_of_busy {s : State} (busy : s.busy = true) :
    execFinish s = .next ((s.deliver (finalize s.cw.toNat s.cxor s.crefout s.rem)).succeed) := if_pos busy

/-- The decoder reads the words of a command as that command (R59, R67). The operands of CONFIGURE, BYTE and REFLECT in
the command word are few enough to try them all; the data word is only passed on. -/
theorem decode_encode (i : Instr) : decode (encode i) = .instr i := by
  cases i with
  | configure w ri ro =>
    have h : ∀ (w : BitVec 7) (ri ro : Bool), decode (encode (.configure w ri ro)) = .instr (.configure w ri ro) := by
      decide
    exact h w ri ro
  | byte b =>
    have h : ∀ b : Byte, decode (encode (.byte b)) = .instr (.byte b) := by decide
    exact h b
  | reflect v n =>
    have h : ∀ n : BitVec 7, (opcode (0x8#4 ++ 0#5 ++ n)).toNat = 8 ∧ (0x8#4 ++ 0#5 ++ n).extractLsb' 7 5 = 0 ∧
        (0x8#4 ++ 0#5 ++ n).extractLsb' 0 7 = n := by decide
    obtain ⟨hop, hzero, hn⟩ := h n
    simp only [encode, decode, hop, hn]
    exact ifZero_eq_instr.mpr ⟨hzero, rfl⟩
  | ldpoly v => simp [encode, decode, opcode, ifZero]
  | ldinit v => simp [encode, decode, opcode, ifZero]
  | ldxor v => simp [encode, decode, opcode, ifZero]
  | start => rfl
  | finish => rfl

end Sys2Proof.Machine
end

section
/-! SUPPORT. What one step of the port does (R50, R129), and repeating a command (R46). -/

namespace Sys2Proof.Machine

/-- Settles O8: the event is handled with the rest of the port left, and a command is handled by performing it. -/
theorem stepRunsTheDecodedCommand : Obligations.StepRunsTheDecodedCommand := by
  intro s c es hp
  have hstep : step s = perform c (s.withPort es) := step_event hp
  exact ⟨hstep, fun i hi => hstep.trans (perform_instr hi _)⟩

/-- CONFIGURE leaves what its checks read, BUSY and the staged values, as they were: the second time it answers as the
first. -/
theorem execConfigure_repeat {w : BitVec 7} {ri ro : Bool} {s t : State} (h : execConfigure w ri ro s = .next t) :
    execConfigure w ri ro t = .next t := by
  obtain ⟨busy, rfl⟩ | ⟨idle, legal, fit, rfl⟩ | ⟨idle, bad, rfl⟩ := execConfigure_cases h
  · exact execConfigure_of_busy (s := s.fail .seq) busy w ri ro
  · exact execConfigure_of_accepted (s := (s.commit w ri ro).succeed) idle legal fit ri ro
  · exact execConfigure_of_rejected (s := s.invalidate.fail .cfg) idle bad ri ro

/-- REFLECT reads its operands alone. -/
theorem execReflect_repeat {v : Data} {n : BitVec 7} {s t : State} (h : execReflect v n s = .next t) :
    execReflect v n t = .next t := by
  obtain ⟨inRange, rfl⟩ | ⟨outOfRange, rfl⟩ := execReflect_cases h
  · exact execReflect_of_inRange inRange v _
  · exact execReflect_of_outOfRange outOfRange v _

/-- Settles O21: a staging command writes its operand again, CONFIGURE and REFLECT repeat their answer, and an ILLEGAL
word fails again. -/
theorem repeatedCommandLeavesTheSameState : Obligations.RepeatedCommandLeavesTheSameState := by
  intro c s t h notStart notByte notFinish
  obtain ⟨i, hi, he⟩ | ⟨hnone, rfl⟩ := perform_cases h
  · rw [perform_instr hi]
    cases i with
    | ldpoly v => cases he; rfl
    | ldinit v => cases he; rfl
    | ldxor v => cases he; rfl
    | configure w ri ro => exact execConfigure_repeat he
    | start => exact absurd hi notStart
    | byte b => exact absurd hi (notByte b)
    | finish => exact absurd hi notFinish
    | reflect v n => exact execReflect_repeat he
  · rw [perform_eq, hnone]
    rfl

end Sys2Proof.Machine
end

section
/-! SUPPORT. The place of a message byte in REM (R43, R91). -/

namespace Sys2Proof.Machine

/-- The byte that meets REM, bit by bit: as it is, or reversed if CREFIN = 1 (R43). -/
theorem inputByte_getLsbD (RI : Bool) (b : Byte) {k : Nat} (hk : k < 64) :
    (inputByte RI b).getLsbD k = if RI then decide (k < 8) && b.getLsbD (7 - k) else b.getLsbD k := by
  have hbyte (j : Nat) (hj : j < 64) : (b.setWidth 64).getLsbD j = b.getLsbD j := by
    rw [BitVec.getLsbD_setWidth, decide_eq_true hj, Bool.true_and]
  cases RI with
  | false => exact hbyte k hk
  | true =>
    refine (reflectLoop_getLsbD (b.setWidth 64) (by decide) 8 le_rfl k).trans ?_
    rw [hbyte (8 - 1 - k) (by omega)]
    simp

/-- Settles O37: the shift by `W-8` moves the bits of the byte, reversed or not, up to the top of the `W` bits. -/
theorem byteIsFoldedMostSignificantBitFirst : Obligations.ByteIsFoldedMostSignificantBitFirst := by
  intro W b k hW hW' hk
  have hshift (v : Data) : (v <<< (W - 8)).getLsbD k = (decide (W - 8 ≤ k) && v.getLsbD (k - (W - 8))) := by
    rw [BitVec.getLsbD_shiftLeft, decide_eq_true hk, Bool.true_and, ← decide_not]
    simp only [Nat.not_lt]
  have hk' : k - (W - 8) < 64 := by omega
  refine ⟨by rw [hshift, inputByte_getLsbD false b hk']; rfl, ?_⟩
  by_cases hlow : W - 8 ≤ k
  · have hbit : 7 - (k - (W - 8)) = W - 1 - k := by omega
    have htop : decide (k - (W - 8) < 8) = decide (W - 8 ≤ k ∧ k < W) := decide_eq_decide.mpr (by omega)
    rw [hshift, inputByte_getLsbD true b hk', if_pos rfl, decide_eq_true hlow, Bool.true_and, hbit, htop]
  · rw [hshift, decide_eq_false hlow, decide_eq_false (fun h => hlow h.1), Bool.false_and, Bool.false_and]

end Sys2Proof.Machine
end

section
/-! SUPPORT. The run of a whole computation, from START to FINISH (R88, R93, R98). -/

namespace Sys2Proof.Machine

/-- The checksum of `m` under the configuration in use (R93). -/
def State.checksum (s : State) (m : List Byte) : Data :=
  computeCrc s.cw.toNat s.cpoly s.cinit s.cxor s.crefin s.crefout m

/-- The first of the issued commands is the run's next step. -/
theorem runSteps_issue {s t : State} {i : Instr} {is : List Instr} {es : List PortEvent}
    (hp : s.port = issue (i :: is) ++ es) (ht : exec i (s.withPort (issue is ++ es)) = .next t) (k : Nat) :
    runSteps (k + 1) s = runSteps k t :=
  runSteps_command hp (decode_encode i) ht k

/-- FINISH writes again all that a BYTE before it has written. -/
theorem State.deliver_after_byte (s : State) (r v : Data) (ps es : List PortEvent) :
    ((((s.withPort ps).writeRem r).succeed.withPort es).deliver v).succeed = ((s.withPort es).deliver v).succeed := rfl

/-- FINISH writes again all that a START before it has written. -/
theorem State.deliver_after_start (s : State) (v : Data) (ps es : List PortEvent) :
    (((s.withPort ps).seed.succeed.withPort es).deliver v).succeed = ((s.withPort es).deliver v).succeed := rfl

/-- From BUSY = 1, the message bytes fold into REM one by one, and FINISH delivers the final step of the last fold. -/
theorem runSteps_bytes_finish {s : State} {m : List Byte} {es : List PortEvent} (busy : s.busy = true)
    (hp : s.port = issue (m.map .byte ++ [.finish]) ++ es) :
    runSteps (m.length + 1) s = .next ((s.withPort es).deliver
      (finalize s.cw.toNat s.cxor s.crefout (m.foldl (fold s.cw.toNat s.cpoly s.crefin) s.rem))).succeed := by
  induction m generalizing s with
  | nil => exact runSteps_issue hp (execFinish_of_busy busy) 0
  | cons b m ih =>
    have hbyte := execByte_of_busy (s := s.withPort (issue (m.map .byte ++ [.finish]) ++ es)) busy b
    rw [List.length_cons, List.foldl_cons, runSteps_issue hp hbyte, ih (by exact busy) rfl]
    rw [State.deliver_after_byte]
    rfl

/-- A computation leaves the checksum in RESULT, and otherwise only what FINISH leaves: nothing of REM's old value is
read, because START seeds it. -/
theorem runSteps_computation {s : State} {m : List Byte} {es : List PortEvent} (valid : s.cfgv = true)
    (idle : s.busy = false) (hp : s.port = issue (computation m) ++ es) :
    runSteps (m.length + 2) s = .next ((s.withPort es).deliver (s.checksum m)).succeed := by
  have hstart := execStart_of_ready (s := s.withPort (issue (m.map .byte ++ [.finish]) ++ es)) valid idle
  rw [runSteps_issue hp hstart, runSteps_bytes_finish rfl rfl, State.deliver_after_start]
  rfl

/-- Settles O52: each run ends with its own state's checksum, which is a function of the configuration and the message. -/
theorem checksumDependsOnlyOnConfigurationAndMessage : Obligations.ChecksumDependsOnlyOnConfigurationAndMessage := by
  intro s s' m es es' t t' valid valid' idle idle' hcw hpoly hinit hxor hrefin hrefout hp hp' ht ht'
  rw [runSteps_computation valid idle hp] at ht
  rw [runSteps_computation valid' idle' hp'] at ht'
  cases ht
  cases ht'
  show s.checksum m = s'.checksum m
  rw [State.checksum, State.checksum, hcw, hpoly, hinit, hxor, hrefin, hrefout]

end Sys2Proof.Machine
end

section
/-! SUPPORT. The decoder, row by row of the opcode map (R61, R67): the equation of each row, and what reads as each
command. -/

namespace Sys2Proof

section Rows
variable {c : Command}

theorem decode_of_opcode_1 (h : c.cmd.toNat / 4096 = 1) : decode c = ifZero c.cmd 0 12 (.ldpoly c.data) := by
  simp only [decode, opcode_toNat, h]

theorem decode_of_opcode_2 (h : c.cmd.toNat / 4096 = 2) : decode c = ifZero c.cmd 0 12 (.ldinit c.data) := by
  simp only [decode, opcode_toNat, h]

theorem decode_of_opcode_3 (h : c.cmd.toNat / 4096 = 3) : decode c = ifZero c.cmd 0 12 (.ldxor c.data) := by
  simp only [decode, opcode_toNat, h]

theorem decode_of_opcode_4 (h : c.cmd.toNat / 4096 = 4) : decode c =
    ifZero c.cmd 9 3 (.configure (c.cmd.extractLsb' 0 7) (c.cmd.getLsbD 7) (c.cmd.getLsbD 8)) := by
  simp only [decode, opcode_toNat, h]

theorem decode_of_opcode_5 (h : c.cmd.toNat / 4096 = 5) : decode c = ifZero c.cmd 0 12 .start := by
  simp only [decode, opcode_toNat, h]

theorem decode_of_opcode_6 (h : c.cmd.toNat / 4096 = 6) :
    decode c = ifZero c.cmd 8 4 (.byte (c.cmd.extractLsb' 0 8)) := by
  simp only [decode, opcode_toNat, h]

theorem decode_of_opcode_7 (h : c.cmd.toNat / 4096 = 7) : decode c = ifZero c.cmd 0 12 .finish := by
  simp only [decode, opcode_toNat, h]

theorem decode_of_opcode_8 (h : c.cmd.toNat / 4096 = 8) :
    decode c = ifZero c.cmd 7 5 (.reflect c.data (c.cmd.extractLsb' 0 7)) := by
  simp only [decode, opcode_toNat, h]

end Rows

/-- `c` is a word of the row of `i` in the opcode map (R61), and each operand of `i` is its field of `c` (R60). -/
def ReadsAs (c : Command) : Instr → Prop
  | .ldpoly v => c.cmd.toNat = 0x1000 ∧ v = c.data
  | .ldinit v => c.cmd.toNat = 0x2000 ∧ v = c.data
  | .ldxor v => c.cmd.toNat = 0x3000 ∧ v = c.data
  | .configure w ri ro => c.cmd.toNat / 512 = 32 ∧
      w = c.cmd.extractLsb' 0 7 ∧ ri = c.cmd.getLsbD 7 ∧ ro = c.cmd.getLsbD 8
  | .start => c.cmd.toNat = 0x5000
  | .byte b => c.cmd.toNat / 256 = 96 ∧ b = c.cmd.extractLsb' 0 8
  | .finish => c.cmd.toNat = 0x7000
  | .reflect v n => c.cmd.toNat / 128 = 256 ∧ v = c.data ∧ n = c.cmd.extractLsb' 0 7

/-- A word with a legal opcode and no reserved bit set is accepted (R63), in exact arithmetic. -/
theorem ifZero_of_field_eq_zero {cmd : CmdWord} {lo len : Nat} (h : cmd.toNat / 2 ^ lo % 2 ^ len = 0) (i : Instr) :
    ifZero cmd lo len i = .instr i :=
  ifZero_eq_instr.mpr ⟨(field_eq_zero_iff cmd lo len).mpr h, rfl⟩

/-- A word of the row of `i` is accepted: its opcode is the row's, and its reserved bits are 0. -/
theorem ReadsAs.decode_eq {c : Command} {i : Instr} (h : ReadsAs c i) : decode c = .instr i := by
  cases i with
  | ldpoly v =>
    obtain ⟨hw, rfl⟩ := h
    exact (decode_of_opcode_1 (by omega)).trans (ifZero_of_field_eq_zero (by omega) _)
  | ldinit v =>
    obtain ⟨hw, rfl⟩ := h
    exact (decode_of_opcode_2 (by omega)).trans (ifZero_of_field_eq_zero (by omega) _)
  | ldxor v =>
    obtain ⟨hw, rfl⟩ := h
    exact (decode_of_opcode_3 (by omega)).trans (ifZero_of_field_eq_zero (by omega) _)
  | configure w ri ro =>
    obtain ⟨hw, rfl, rfl, rfl⟩ := h
    exact (decode_of_opcode_4 (by omega)).trans (ifZero_of_field_eq_zero (by omega) _)
  | start =>
    have hw : c.cmd.toNat = 0x5000 := h
    exact (decode_of_opcode_5 (by omega)).trans (ifZero_of_field_eq_zero (by omega) _)
  | byte b =>
    obtain ⟨hw, rfl⟩ := h
    exact (decode_of_opcode_6 (by omega)).trans (ifZero_of_field_eq_zero (by omega) _)
  | finish =>
    have hw : c.cmd.toNat = 0x7000 := h
    exact (decode_of_opcode_7 (by omega)).trans (ifZero_of_field_eq_zero (by omega) _)
  | reflect v n =>
    obtain ⟨hw, rfl, rfl⟩ := h
    exact (decode_of_opcode_8 (by omega)).trans (ifZero_of_field_eq_zero (by omega) _)

/-- The decoder reads `i` from exactly the words of its row (R61, R67). -/
theorem decode_eq_instr_iff {c : Command} {i : Instr} : decode c = .instr i ↔ ReadsAs c i := by
  refine ⟨fun h => ?_, ReadsAs.decode_eq⟩
  obtain ⟨hw, rfl⟩ | ⟨hw, rfl⟩ | ⟨hw, rfl⟩ | ⟨hw, rfl⟩ | ⟨hw, rfl⟩ | ⟨hw, rfl⟩ | ⟨hw, rfl⟩ | ⟨hw, rfl⟩ := decode_cases h
  all_goals simp [ReadsAs, hw]

end Sys2Proof
end

section
/-! SUPPORT. Decoding and encoding are inverse, the opcode map, the operands, and the ILLEGAL words (R59 to R68). -/

namespace Sys2Proof.Machine

/-! ### Words and fields as numbers -/

theorem extractLsb'_zero_toNat (cmd : CmdWord) (len : Nat) : (cmd.extractLsb' 0 len).toNat = cmd.toNat % 2 ^ len := by
  rw [BitVec.extractLsb'_toNat, Nat.shiftRight_zero]

/-- One field beside another, as a number. -/
theorem toNat_append_eq_add {n m : Nat} (x : BitVec n) (y : BitVec m) :
    (x ++ y).toNat = x.toNat * 2 ^ m + y.toNat := by
  rw [BitVec.toNat_append, ← Nat.shiftLeft_add_eq_or_of_lt y.isLt, Nat.shiftLeft_eq]

/-- The number of CONFIGURE's command word (R68). -/
theorem encode_configure_cmd_toNat (w : BitVec 7) (ri ro : Bool) :
    (encode (.configure w ri ro)).cmd.toNat = 0x4000 + ro.toNat * 256 + ri.toNat * 128 + w.toNat := by
  simp only [encode, toNat_append_eq_add, BitVec.toNat_ofBool, BitVec.toNat_ofNat]
  omega

/-- The number of BYTE's command word (R68). -/
theorem encode_byte_cmd_toNat (b : Byte) : (encode (.byte b)).cmd.toNat = 0x6000 + b.toNat := by
  simp only [encode, toNat_append_eq_add, BitVec.toNat_ofNat]
  omega

/-- The number of REFLECT's command word (R68). -/
theorem encode_reflect_cmd_toNat (v : Data) (n : BitVec 7) : (encode (.reflect v n)).cmd.toNat = 0x8000 + n.toNat := by
  simp only [encode, toNat_append_eq_add, BitVec.toNat_ofNat]
  omega

/-- A mask of the opcode map (R61) compares the bits of the word from some bit `k` up. -/
theorem and_highMask_eq_iff {k : Nat} {bits : CmdWord} (hbits : 2 ^ k ∣ bits.toNat) (cmd : CmdWord) :
    cmd &&& BitVec.allOnes 16 <<< k = bits ↔ cmd.toNat / 2 ^ k = bits.toNat / 2 ^ k := by
  have hlt : cmd.toNat / 2 ^ k * 2 ^ k < 2 ^ 16 := (Nat.div_mul_le_self ..).trans_lt cmd.isLt
  rw [← BitVec.toNat_inj, ← BitVec.shiftLeft_ushiftRight, BitVec.toNat_shiftLeft, BitVec.toNat_ushiftRight,
    Nat.shiftRight_eq_div_pow, Nat.shiftLeft_eq, Nat.mod_eq_of_lt hlt,
    Nat.eq_div_iff_mul_eq_left (Nat.two_pow_pos k).ne' hbits, eq_comm]

/-! ### Decoding and encoding -/

/-- Settles O1: the ten words are written out, and the decoder evaluates. -/
theorem specWordsDecodeToTheirCommands : Obligations.SpecWordsDecodeToTheirCommands := by
  unfold Obligations.SpecWordsDecodeToTheirCommands
  decide

/-- Settles O2, by the cases of the command. -/
theorem decodeOfEncodeIsTheCommand : Obligations.DecodeOfEncodeIsTheCommand := decode_encode

/-- The number of the command word of `i` is the one it was read from. -/
theorem encode_cmd_of_readsAs {c : Command} {i : Instr} (h : ReadsAs c i) : (encode i).cmd = c.cmd := by
  apply BitVec.eq_of_toNat_eq
  cases i with
  | ldpoly v => exact h.1.symm
  | ldinit v => exact h.1.symm
  | ldxor v => exact h.1.symm
  | configure w ri ro =>
    obtain ⟨hw, rfl, rfl, rfl⟩ := h
    rw [encode_configure_cmd_toNat, extractLsb'_zero_toNat, BitVec.getLsbD, BitVec.getLsbD, Nat.toNat_testBit,
      Nat.toNat_testBit]
    omega
  | start => exact h.symm
  | byte b =>
    obtain ⟨hw, rfl⟩ := h
    rw [encode_byte_cmd_toNat, extractLsb'_zero_toNat]
    omega
  | finish => exact h.symm
  | reflect v n =>
    obtain ⟨hw, -, rfl⟩ := h
    rw [encode_reflect_cmd_toNat, extractLsb'_zero_toNat]
    omega

/-- Settles O3: the command word by its number, and the data word, which formats D and R read and the others do not. -/
theorem encodeOfDecodeIsTheWord : Obligations.EncodeOfDecodeIsTheWord := by
  intro c i h
  have hread := decode_eq_instr_iff.mp h
  refine ⟨encode_cmd_of_readsAs hread, ?_⟩
  cases i with
  | ldpoly v => exact hread.2
  | ldinit v => exact hread.2
  | ldxor v => exact hread.2
  | reflect v n => exact hread.2.1
  | _ => rfl

/-- Settles O4: each row's mask keeps the opcode and the reserved bits, and `ReadsAs` fixes the same bits. -/
theorem wordSelectsCommandByMaskAndMatch : Obligations.WordSelectsCommandByMaskAndMatch := by
  intro c
  have hfull (bits : CmdWord) : c.cmd &&& 0xFFFF = bits ↔ c.cmd.toNat = bits.toNat :=
    (and_highMask_eq_iff (k := 0) (one_dvd _) c.cmd).trans (by simp)
  have hC : c.cmd &&& 0xFE00 = 0x4000 ↔ c.cmd.toNat / 512 = 32 := and_highMask_eq_iff (k := 9) (by decide) c.cmd
  have hB : c.cmd &&& 0xFF00 = 0x6000 ↔ c.cmd.toNat / 256 = 96 := and_highMask_eq_iff (k := 8) (by decide) c.cmd
  have hR : c.cmd &&& 0xFF80 = 0x8000 ↔ c.cmd.toNat / 128 = 256 := and_highMask_eq_iff (k := 7) (by decide) c.cmd
  simp only [hfull, hC, hB, hR]
  simp [decode_eq_instr_iff, ReadsAs]

/-- Settles O5: the operands as the fields of the word (R60), each field in exact arithmetic. -/
theorem operandsAreTheirFields : Obligations.OperandsAreTheirFields := by
  intro c
  simp only [decode_eq_instr_iff, ReadsAs]
  refine ⟨fun v h => h.2, fun v h => h.2, fun v h => h.2, fun w ri ro h => ?_, fun b h => ?_, fun v n h => ?_⟩
  · obtain ⟨-, rfl, rfl, rfl⟩ := h
    exact ⟨extractLsb'_zero_toNat c.cmd 7, rfl, rfl⟩
  · obtain ⟨-, rfl⟩ := h
    exact extractLsb'_zero_toNat c.cmd 8
  · obtain ⟨-, rfl, rfl⟩ := h
    exact ⟨rfl, extractLsb'_zero_toNat c.cmd 7⟩

/-! ### The data word of formats Z, C and B, and the ILLEGAL words -/

/-- No operand of a word with opcode 4 to 7 is in the data word (R60, R64). -/
theorem decode_eq_of_opcode_4_to_7 {cmd : CmdWord} (lo : 4 ≤ cmd.toNat / 4096) (hi : cmd.toNat / 4096 ≤ 7)
    (d d' : Data) : decode ⟨cmd, d⟩ = decode ⟨cmd, d'⟩ := by
  obtain h | h | h | h : cmd.toNat / 4096 = 4 ∨ cmd.toNat / 4096 = 5 ∨ cmd.toNat / 4096 = 6 ∨ cmd.toNat / 4096 = 7 := by
    omega
  · exact (decode_of_opcode_4 h).trans (decode_of_opcode_4 (c := ⟨cmd, d'⟩) h).symm
  · exact (decode_of_opcode_5 h).trans (decode_of_opcode_5 (c := ⟨cmd, d'⟩) h).symm
  · exact (decode_of_opcode_6 h).trans (decode_of_opcode_6 (c := ⟨cmd, d'⟩) h).symm
  · exact (decode_of_opcode_7 h).trans (decode_of_opcode_7 (c := ⟨cmd, d'⟩) h).symm

/-- Settles O6: a command acts by what it decodes to. -/
theorem unusedDataWordIsIgnored : Obligations.UnusedDataWordIsIgnored := by
  intro cmd d d' s lo hi
  rw [perform_eq, perform_eq, decode_eq_of_opcode_4_to_7 lo hi d d']

/-- A word that is no command fails with ILLEGAL, whatever the state (R62, R63). -/
theorem perform_of_not_instr {c : Command} (h : ∀ i, decode c ≠ .instr i) (s : State) :
    perform c s = .next (s.fail .illegal) := by
  rw [perform_eq]
  cases hd : decode c with
  | instr i => exact absurd hd (h i)
  | illegalOpcode => rfl
  | reservedBit => rfl

/-- Settles O9: every row of the opcode map has an opcode from 1 to 8. -/
theorem illegalOpcodeFailsWithNoOtherEffect : Obligations.IllegalOpcodeFailsWithNoOtherEffect := by
  intro c s hop
  refine perform_of_not_instr (fun i hi => ?_) s
  have hrow := decode_cases hi
  omega

/-- Settles O10: a word of the opcode map has every reserved bit of its row's format 0. -/
theorem reservedBitFailsWithNoOtherEffect : Obligations.ReservedBitFailsWithNoOtherEffect := by
  intro c s hreserved
  refine perform_of_not_instr (fun i hi => ?_) s
  have hrow := decode_cases hi
  simp only [List.mem_cons, List.not_mem_nil, or_false] at hreserved
  omega

end Sys2Proof.Machine
end

section
/-! SUPPORT. The assembler's words are the encoder's (R68), and the run of CONFIG and COMPUTE (R69). -/

namespace Sys2Proof

/-- The command a source line means (R68), each operand cut to its field's width. -/
def SourceLine.instr : SourceLine → Instr
  | .ldpoly v => .ldpoly (BitVec.ofNat 64 v)
  | .ldinit v => .ldinit (BitVec.ofNat 64 v)
  | .ldxor v => .ldxor (BitVec.ofNat 64 v)
  | .configure w ri ro => .configure (BitVec.ofNat 7 w) (ri == 1) (ro == 1)
  | .start => .start
  | .byte b => .byte (BitVec.ofNat 8 b)
  | .finish => .finish
  | .reflect v n => .reflect (BitVec.ofNat 64 v) (BitVec.ofNat 7 n)

theorem SourceLine.ldpoly_wellFormed_iff {v : Nat} : (SourceLine.ldpoly v).wellFormed = true ↔ v < 2 ^ 64 :=
  decide_eq_true_iff

theorem SourceLine.ldinit_wellFormed_iff {v : Nat} : (SourceLine.ldinit v).wellFormed = true ↔ v < 2 ^ 64 :=
  decide_eq_true_iff

theorem SourceLine.ldxor_wellFormed_iff {v : Nat} : (SourceLine.ldxor v).wellFormed = true ↔ v < 2 ^ 64 :=
  decide_eq_true_iff

theorem SourceLine.configure_wellFormed_iff {w ri ro : Nat} :
    (SourceLine.configure w ri ro).wellFormed = true ↔ w ≤ 127 ∧ ri ≤ 1 ∧ ro ≤ 1 := by
  simp [SourceLine.wellFormed, and_assoc]

theorem SourceLine.byte_wellFormed_iff {b : Nat} : (SourceLine.byte b).wellFormed = true ↔ b ≤ 255 :=
  decide_eq_true_iff

theorem SourceLine.reflect_wellFormed_iff {v n : Nat} :
    (SourceLine.reflect v n).wellFormed = true ↔ v < 2 ^ 64 ∧ n ≤ 127 := by
  simp [SourceLine.wellFormed]

end Sys2Proof

namespace Sys2Proof.Machine

/-! ### The assembler's words -/

theorem toNat_beq_one {x : Nat} (hx : x ≤ 1) : (x == 1).toNat = x := by
  interval_cases x <;> rfl

/-- A line whose operands fit gives the words of the command it means: the number of R68's table is the number of the
encoder's command word. -/
theorem assemble_of_wellFormed {l : SourceLine} (h : l.wellFormed = true) : assemble l = some (encode l.instr) := by
  refine (if_pos h).trans (congrArg some ?_)
  cases l with
  | configure w ri ro =>
    obtain ⟨hw, hri, hro⟩ := SourceLine.configure_wellFormed_iff.mp h
    refine congrArg (Command.mk · 0) (BitVec.eq_of_toNat_eq (Eq.trans ?_ (encode_configure_cmd_toNat ..).symm))
    simp only [BitVec.toNat_ofNat, toNat_beq_one hri, toNat_beq_one hro]
    omega
  | byte b =>
    have hb := SourceLine.byte_wellFormed_iff.mp h
    refine congrArg (Command.mk · 0) (BitVec.eq_of_toNat_eq (Eq.trans ?_ (encode_byte_cmd_toNat _).symm))
    simp only [BitVec.toNat_ofNat]
    omega
  | reflect v n =>
    obtain ⟨-, hn⟩ := SourceLine.reflect_wellFormed_iff.mp h
    refine congrArg (Command.mk · _) (BitVec.eq_of_toNat_eq (Eq.trans ?_ (encode_reflect_cmd_toNat 0 _).symm))
    simp only [BitVec.toNat_ofNat]
    omega
  | _ => rfl

/-- The assembler rejects the lines with an operand that does not fit, and no other. -/
theorem assemble_eq_none_iff {l : SourceLine} : assemble l = none ↔ ¬ l.wellFormed = true := by
  refine ⟨fun hnone h => ?_, fun h => if_neg h⟩
  rw [assemble_of_wellFormed h] at hnone
  cases hnone

/-- The decoder reads the words of a line as the command it means. -/
theorem decode_assembled {l : SourceLine} (h : l.wellFormed = true) :
    ∃ c, assemble l = some c ∧ decode c = .instr l.instr :=
  ⟨_, assemble_of_wellFormed h, decode_encode _⟩

/-- Settles O7: a line is rejected exactly when an operand does not fit, and else assembles to its command's words. -/
theorem assembledLinesDecodeToTheirCommands : Obligations.AssembledLinesDecodeToTheirCommands := by
  simp only [Obligations.AssembledLinesDecodeToTheirCommands, assemble_eq_none_iff, SourceLine.ldpoly_wellFormed_iff,
    SourceLine.ldinit_wellFormed_iff, SourceLine.ldxor_wellFormed_iff, SourceLine.configure_wellFormed_iff,
    SourceLine.byte_wellFormed_iff, SourceLine.reflect_wellFormed_iff]
  exact ⟨fun v => by omega, fun v hv => decode_assembled (SourceLine.ldpoly_wellFormed_iff.mpr hv),
    fun v => by omega, fun v hv => decode_assembled (SourceLine.ldinit_wellFormed_iff.mpr hv),
    fun v => by omega, fun v hv => decode_assembled (SourceLine.ldxor_wellFormed_iff.mpr hv),
    fun w ri ro => by omega, fun w ri ro hw hri hro =>
      decode_assembled (SourceLine.configure_wellFormed_iff.mpr ⟨hw, hri, hro⟩),
    decode_assembled (l := .start) rfl,
    fun b => by omega, fun b hb => decode_assembled (SourceLine.byte_wellFormed_iff.mpr hb),
    decode_assembled (l := .finish) rfl,
    fun v n => by omega, fun v n hv hn => decode_assembled (SourceLine.reflect_wellFormed_iff.mpr ⟨hv, hn⟩)⟩

/-! ### CONFIG and COMPUTE -/

/-- Whatever words a line assembles to are those of the command it means. -/
theorem eq_encode_of_assemble {l : SourceLine} {c : Command} (h : assemble l = some c) : c = encode l.instr := by
  by_cases hl : l.wellFormed = true
  · exact Option.some.inj (h.symm.trans (assemble_of_wellFormed hl))
  · simp [assemble_eq_none_iff.mpr hl] at h

/-- The words of some lines, issued, are the events of the commands the lines mean. -/
theorem issueWords_of_mapM_assemble {ls : List SourceLine} {cs : List Command} (h : ls.mapM assemble = some cs) :
    issueWords cs = issue (ls.map SourceLine.instr) := by
  induction ls generalizing cs with
  | nil =>
    cases h
    rfl
  | cons l ls ih =>
    obtain ⟨c, hc, cs', hcs', rfl⟩ : ∃ c, assemble l = some c ∧ ∃ cs', ls.mapM assemble = some cs' ∧ c :: cs' = cs := by
      simpa [List.mapM_cons, Option.bind_eq_some_iff] using h
    rw [eq_encode_of_assemble hc]
    exact congrArg (PortEvent.command (encode l.instr) :: ·) (ih hcs')

theorem issue_append (is js : List Instr) : issue (is ++ js) = issue is ++ issue js := List.map_append

/-- The commands that CONFIG means (R69). -/
def configuration (p i x : Data) (w : BitVec 7) (ri ro : Bool) : List Instr :=
  [.ldpoly p, .ldinit i, .ldxor x, .configure w ri ro]

/-- The block once these commands have staged and committed their parameters (R78 to R83). -/
def State.configured (p i x : Data) (w : BitVec 7) (ri ro : Bool) (s : State) : State :=
  (((s.stagePoly p).stageInit i).stageXor x).commit w ri ro

theorem pseudoConfig_map_instr (w poly init xor ri ro : Nat) :
    (pseudoConfig w poly init xor ri ro).map SourceLine.instr =
      configuration (BitVec.ofNat 64 poly) (BitVec.ofNat 64 init) (BitVec.ofNat 64 xor) (BitVec.ofNat 7 w) (ri == 1)
        (ro == 1) := rfl

/-- COMPUTE of some bytes means their computation (R69, R88). -/
theorem pseudoCompute_map_instr (m : List Byte) :
    (pseudoCompute (m.map BitVec.toNat)).map SourceLine.instr = computation m := by
  simp [pseudoCompute, computation, SourceLine.instr, Function.comp_def]

section
variable {s : State} {p i x : Data} {w : BitVec 7} {ri ro : Bool} {es : List PortEvent}

/-- With a legal width and three values that fit it, an idle block accepts the configuration (R83). -/
theorem runSteps_configuration (idle : s.busy = false) (legal : legalWidth w = true) (hp : fits p w.toNat = true)
    (hi : fits i w.toNat = true) (hx : fits x w.toNat = true)
    (hport : s.port = issue (configuration p i x w ri ro) ++ es) (k : Nat) :
    runSteps (k + 4) s = runSteps k ((s.withPort es).configured p i x w ri ro).succeed := by
  have fit : (((s.stagePoly p).stageInit i).stageXor x).stagedFit w = true := by
    simp [State.stagedFit, hp, hi, hx]
  rw [runSteps_issue hport rfl, runSteps_issue rfl rfl, runSteps_issue rfl rfl]
  refine runSteps_issue (i := .configure w ri ro) (is := []) rfl (execConfigure_of_accepted ?_ legal ?_ ri ro) k
  · exact idle
  · exact fit

/-- The computation after it delivers the checksum of the parameters just committed (R93, R98). -/
theorem runSteps_configuration_computation {m : List Byte} (idle : s.busy = false) (legal : legalWidth w = true)
    (hp : fits p w.toNat = true) (hi : fits i w.toNat = true) (hx : fits x w.toNat = true)
    (hport : s.port = issue (configuration p i x w ri ro ++ computation m) ++ es) :
    runSteps (m.length + 6) s =
      .next (((s.withPort es).configured p i x w ri ro).deliver (computeCrc w.toNat p i x ri ro m)).succeed := by
  rw [issue_append, List.append_assoc] at hport
  rw [runSteps_configuration (k := m.length + 2) idle legal hp hi hx hport]
  exact runSteps_computation rfl idle rfl

end

/-- Settles O51: the assembler's words are the events of a configuration and a computation, and the operands that fit
keep their values in the words. -/
theorem configThenComputeDeliversTheChecksum : Obligations.ConfigThenComputeDeliversTheChecksum := by
  intro s w poly init xor ri ro m cs es idle hw hpoly hinit hxor hri hro hcs hport
  have hwidth : w = 8 ∨ w = 16 ∨ w = 32 ∨ w = 64 := by simpa using hw
  have hcw : (BitVec.ofNat 7 w).toNat = w := Nat.mod_eq_of_lt (by omega)
  have legal : legalWidth (BitVec.ofNat 7 w) = true := legalWidth_iff.mpr (by rwa [hcw])
  have hfits {v : Nat} (hv : v < 2 ^ w) : fits (BitVec.ofNat 64 v) (BitVec.ofNat 7 w).toNat = true := by
    rw [fits_iff, hcw]
    exact (Nat.mod_le ..).trans_lt hv
  rw [issueWords_of_mapM_assemble hcs, List.map_append, pseudoConfig_map_instr, pseudoCompute_map_instr] at hport
  have hrun := runSteps_configuration_computation idle legal (hfits hpoly) (hfits hinit) (hfits hxor) hport
  rw [hcw] at hrun
  exact ⟨_, hrun, rfl, rfl, rfl, rfl, rfl, rfl⟩

end Sys2Proof.Machine
end

section
/-! SUPPORT. `reflect` bit by bit and as the sum of R71, and REFLECT's answer on each of its words (R71 to R77). -/

namespace Sys2Proof.Machine

/-! ### The bits and the value of `reflect` -/

/-- Bit `j` of the reversal is bit `n-1-j` of `v`, and nothing stands at or above `n` (R71). -/
theorem reflect_getLsbD (v : Data) {n : Nat} (hn : n ≤ 64) (j : Nat) :
    (reflect v n).getLsbD j = (decide (j < n) && v.getLsbD (n - 1 - j)) := by
  rw [reflect, reflectLoop_getLsbD v hn n le_rfl, decide_eq_decide.mpr (by omega : n - n ≤ j ∧ j < n ↔ j < n)]

/-- Bit `j` of `v` is bit `n-1-j` of the reversal (R71). -/
theorem reflect_getLsbD_mirror (v : Data) {n j : Nat} (hn : n ≤ 64) (hj : j < n) :
    (reflect v n).getLsbD (n - 1 - j) = v.getLsbD j := by
  have hback : n - 1 - (n - 1 - j) = j := by omega
  rw [reflect_getLsbD v hn, hback, decide_eq_true (by omega), Bool.true_and]

/-- Masking to `n` bits keeps the bits below `n`. -/
theorem and_mask_getLsbD {n : Nat} (hn : n ≤ 64) (v : Data) (j : Nat) :
    (v &&& mask n).getLsbD j = (decide (j < n) && v.getLsbD j) := by
  rw [← BitVec.testBit_toNat, and_mask_toNat hn, Nat.testBit_mod_two_pow, BitVec.testBit_toNat]

/-- Putting a bit where `r` has a 0 adds its weight. -/
theorem putBit_toNat {r : Data} {k : Nat} (hk : k < 64) (hr : r.getLsbD k = false) (b : Bool) :
    (putBit r k b).toNat = r.toNat + b.toNat * 2 ^ k := by
  cases b with
  | false => simp [putBit]
  | true =>
    have hdisjoint : r &&& BitVec.twoPow 64 k = 0#64 := by simp [BitVec.and_twoPow, hr]
    calc (r ||| BitVec.twoPow 64 k).toNat = (r + BitVec.twoPow 64 k).toNat := by
          rw [BitVec.add_eq_or_of_and_eq_zero _ _ hdisjoint]
      _ = r.toNat + 2 ^ k := by
          rw [BitVec.toNat_add_of_and_eq_zero hdisjoint, BitVec.toNat_twoPow_of_lt hk]
      _ = r.toNat + true.toNat * 2 ^ k := by rw [Bool.toNat_true, Nat.one_mul]

/-- After `i` turns the loop has summed the weights of the first `i` bits: turn `i` puts its bit where there is a 0. -/
theorem reflectLoop_toNat (v : Data) {n : Nat} (hn : n ≤ 64) (i : Nat) (hi : i ≤ n) :
    (reflectLoop v n i).toNat = ∑ k ∈ Finset.range i, (v.getLsbD k).toNat * 2 ^ (n - 1 - k) := by
  induction i with
  | zero => rfl
  | succ i ih =>
    have hfree : (reflectLoop v n i).getLsbD (n - 1 - i) = false := by
      rw [reflectLoop_getLsbD v hn i (by omega), decide_eq_false (by omega), Bool.false_and]
    rw [reflectLoop, putBit_toNat (by omega) hfree, ih (by omega), Finset.sum_range_succ]

/-- Settles O22: the bits and the bound from the reversal bit by bit, the sum from the loop after all `n` turns. -/
theorem reflectReversesTheLowBits : Obligations.ReflectReversesTheLowBits :=
  fun v n hn => ⟨fun _ hi => reflect_getLsbD_mirror v hn hi, reflect_lt v hn, reflectLoop_toNat v hn n le_rfl⟩

/-- Only the bits below `n` are read (R73). -/
theorem reflect_and_mask (v : Data) {n : Nat} (hn : n ≤ 64) : reflect (v &&& mask n) n = reflect v n := by
  refine BitVec.eq_of_getLsbD_eq fun j _ => ?_
  rw [reflect_getLsbD _ hn, reflect_getLsbD _ hn, and_mask_getLsbD hn]
  by_cases hj : j < n
  · rw [decide_eq_true (by omega : n - 1 - j < n), Bool.true_and]
  · simp [hj]

/-- Settles O23: no turn of the loop for `n = 0` (R72), and only the masked bits are read (R73). -/
theorem reflectIgnoresHighBits : Obligations.ReflectIgnoresHighBits :=
  ⟨fun _ => rfl, fun v _ hn => ⟨(reflect_and_mask v hn).symm, reflect_lt v hn⟩⟩

/-- Two reversals bring each bit below `n` back to its place (R74). -/
theorem reflect_reflect (x : Data) {n : Nat} (hn : n ≤ 64) : reflect (reflect x n) n = x &&& mask n := by
  refine BitVec.eq_of_getLsbD_eq fun j _ => ?_
  rw [reflect_getLsbD _ hn, and_mask_getLsbD hn]
  by_cases hj : j < n
  · rw [reflect_getLsbD_mirror x hn hj]
  · simp [hj]

/-- A value that fits within `n` bits is its own masking. -/
theorem and_mask_of_lt {x : Data} {n : Nat} (hn : n ≤ 64) (hx : x.toNat < 2 ^ n) : x &&& mask n = x :=
  BitVec.eq_of_toNat_eq ((and_mask_toNat hn x).trans (Nat.mod_eq_of_lt hx))

/-- Settles O24: two reversals are the masking, which changes no value that fits. -/
theorem reflectIsAnInvolution : Obligations.ReflectIsAnInvolution :=
  fun x _ hn => ⟨fun hx => (reflect_reflect x hn).trans (and_mask_of_lt hn hx), reflect_reflect x hn⟩

/-! ### The command REFLECT -/

/-- Settles O25: the decoder tests the reserved bits, and the count it reads is the word modulo 128. -/
theorem reflectCommandDeliversOrFailsWithArg : Obligations.ReflectCommandDeliversOrFailsWithArg := by
  refine ⟨fun v n s hn => execReflect_of_inRange (countInRange_iff.mpr hn) v s, fun cmd v s hop => ?_⟩
  have hdecode := decode_of_opcode_8 (c := ⟨cmd, v⟩) hop
  by_cases hreserved : cmd.toNat / 2 ^ 7 % 2 ^ 5 = 0
  · rw [ifZero_of_field_eq_zero hreserved] at hdecode
    have hcount : (cmd.extractLsb' 0 7).toNat = cmd.toNat % 2 ^ 7 := extractLsb'_zero_toNat cmd 7
    rw [perform_instr hdecode, if_neg (not_not.mpr hreserved), ← hcount]
    split
    case isTrue hout =>
      exact execReflect_of_outOfRange (Bool.eq_false_iff.mpr fun h => hout.not_ge (countInRange_iff.mp h)) v s
    case isFalse hin => exact execReflect_of_inRange (countInRange_iff.mpr (not_lt.mp hin)) v s
  · rw [ifZero_eq_reservedBit.mpr (mt (field_eq_zero_iff ..).mp hreserved)] at hdecode
    rw [perform_eq, hdecode, if_pos hreserved]
    rfl

/-- Settles O26: whether REFLECT succeeds, and what it delivers, depends on its operands alone. -/
theorem reflectSparesConfigurationAndComputation : Obligations.ReflectSparesConfigurationAndComputation := by
  intro v n s s' t t' h h'
  cases inRange : countInRange n with
  | true =>
    cases (execReflect_of_inRange inRange v s).symm.trans h
    cases (execReflect_of_inRange inRange v s').symm.trans h'
    exact ⟨rfl, rfl, fun _ => rfl⟩
  | false =>
    cases (execReflect_of_outOfRange inRange v s).symm.trans h
    cases (execReflect_of_outOfRange inRange v s').symm.trans h'
    exact ⟨rfl, rfl, fun hn => by simp [countInRange_iff.mpr hn] at inRange⟩

end Sys2Proof.Machine
end

section
/-! SUPPORT. The configuration commands on their words (R78 to R80, R83), a rejected configuration (R84), and that an
accepted one cannot fail (R87). -/

namespace Sys2Proof.Machine

/-! ### The words of one row -/

/-- A word of a row of the opcode map fails with ILLEGAL if a reserved bit of the row's format is set (R63), and else
acts as the row's command. -/
theorem perform_of_row {c : Command} {lo len : Nat} {i : Instr} (h : decode c = ifZero c.cmd lo len i) (s : State) :
    perform c s = if c.cmd.toNat / 2 ^ lo % 2 ^ len ≠ 0 then .next (s.fail .illegal) else exec i s := by
  by_cases hreserved : c.cmd.toNat / 2 ^ lo % 2 ^ len = 0
  · rw [if_neg (not_not.mpr hreserved)]
    exact perform_instr (h.trans (ifZero_of_field_eq_zero hreserved i)) s
  · rw [if_pos hreserved, perform_eq, h, ifZero_eq_reservedBit.mpr (mt (field_eq_zero_iff ..).mp hreserved)]
    rfl

/-- The same for a row with all 12 bits below the opcode reserved (formats D and Z), when the answer of its command is
known. -/
theorem perform_of_row_without_fields {c : Command} {i : Instr} {s t : State} (h : decode c = ifZero c.cmd 0 12 i)
    (ht : exec i s = .next t) :
    perform c s = .next (if c.cmd.toNat % 2 ^ 12 ≠ 0 then s.fail .illegal else t) := by
  rw [perform_of_row h, ht, pow_zero, Nat.div_one, apply_ite Host.Outcome.next]

/-! ### LDPOLY, LDINIT and LDXOR -/

/-- Settles O27: the format has no field in the command word, and LDPOLY has one answer. -/
theorem ldpolyStagesThePolynomial : Obligations.LdpolyStagesThePolynomial :=
  ⟨fun _ _ => rfl, fun _ _ _ hop => perform_of_row_without_fields (decode_of_opcode_1 hop) rfl⟩

/-- Settles O28: the same, for LDINIT. -/
theorem ldinitStagesTheInitialRemainder : Obligations.LdinitStagesTheInitialRemainder :=
  ⟨fun _ _ => rfl, fun _ _ _ hop => perform_of_row_without_fields (decode_of_opcode_2 hop) rfl⟩

/-- Settles O29: the same, for LDXOR. -/
theorem ldxorStagesTheFinalXor : Obligations.LdxorStagesTheFinalXor :=
  ⟨fun _ _ => rfl, fun _ _ _ hop => perform_of_row_without_fields (decode_of_opcode_3 hop) rfl⟩

/-! ### CONFIGURE -/

/-- The checks of CONFIGURE in exact arithmetic (R81, R82). -/
theorem configureChecks_iff {s : State} {w : BitVec 7} :
    (legalWidth w && s.stagedFit w) = true ↔
      w.toNat ∈ [8, 16, 32, 64] ∧ s.spoly.toNat < 2 ^ w.toNat ∧ s.sinit.toNat < 2 ^ w.toNat ∧
        s.sxor.toNat < 2 ^ w.toNat := by
  simp [legalWidth_iff, stagedFit_iff]

/-- CONFIGURE completes in every state (R131). -/
theorem execConfigure_completes (w : BitVec 7) (ri ro : Bool) (s : State) :
    ∃ t, execConfigure w ri ro s = .next t := by
  unfold execConfigure
  split
  · exact ⟨_, rfl⟩
  · split <;> exact ⟨_, rfl⟩

/-- Settles O30: the parameters pass both checks. -/
theorem configureCommitsAcceptedParameters : Obligations.ConfigureCommitsAcceptedParameters := by
  intro w ri ro s idle hw hpoly hinit hxor
  obtain ⟨legal, fit⟩ := (Bool.and_eq_true_iff ..).mp (configureChecks_iff.mpr ⟨hw, hpoly, hinit, hxor⟩)
  exact execConfigure_of_accepted idle legal fit ri ro

/-- Settles O31: the decoder tests the reserved bits, and the three answers of CONFIGURE are told apart by BUSY and the
checks. -/
theorem configureWordTestsThenCommits : Obligations.ConfigureWordTestsThenCommits := by
  intro cmd d s w hop hw
  obtain rfl : w = cmd.extractLsb' 0 7 := BitVec.eq_of_toNat_eq (hw.trans (extractLsb'_zero_toNat cmd 7).symm)
  rw [perform_of_row (decode_of_opcode_4 hop)]
  by_cases hreserved : cmd.toNat / 2 ^ 9 % 2 ^ 3 ≠ 0
  · simp only [if_pos hreserved]
    exact ⟨_, rfl, rfl⟩
  · obtain ⟨t, ht⟩ := execConfigure_completes (cmd.extractLsb' 0 7) (cmd.getLsbD 7) (cmd.getLsbD 8) s
    simp only [if_neg hreserved]
    refine ⟨t, ht, ?_⟩
    obtain ⟨busy, rfl⟩ | ⟨idle, legal, fit, rfl⟩ | ⟨idle, bad, rfl⟩ := execConfigure_cases ht
    · rw [if_pos busy]
      rfl
    · have checks := configureChecks_iff.mp ((Bool.and_eq_true_iff ..).mpr ⟨legal, fit⟩)
      rw [if_neg (Bool.eq_false_iff.mp idle), if_pos checks]
      rfl
    · rw [if_neg (Bool.eq_false_iff.mp idle), if_neg (mt configureChecks_iff.mpr (Bool.eq_false_iff.mp bad))]
      exact ⟨rfl, rfl, rfl, rfl, rfl, rfl, idle, rfl, rfl, rfl⟩

/-! ### After a rejected configuration -/

/-- Of the commands that succeed, only CONFIGURE changes CFGV, and it sets it. -/
theorem Effect.cfgv_eq_true_iff {s u : State} {i : Instr} (h : Effect s i u) :
    u.cfgv = true ↔ s.cfgv = true ∨ ∃ w ri ro, i = .configure w ri ro := by
  cases h <;> simp

/-- With CFGV = 0, a command leaves CFGV = 1 only if it is a CONFIGURE that succeeds (R84). -/
theorem perform_cfgv_of_invalid {c : Command} {s t : State} (invalid : s.cfgv = false) (h : perform c s = .next t) :
    t.cfgv = true ↔ (∃ w ri ro, decode c = .instr (.configure w ri ro)) ∧ t.err = 0 := by
  obtain ⟨i, u, hi, hu, rfl⟩ | ⟨e, rfl⟩ | ⟨-, rfl⟩ := perform_outcome h
  · simp [hi, hu.cfgv_eq_true_iff, invalid]
  · simp [invalid]
  · simp

theorem execStart_of_invalid {s : State} (invalid : s.cfgv = false) : execStart s = .next (s.fail .seq) := by
  simp [execStart, invalid]

/-- Settles O32: a failing check clears CFGV, and no command but a CONFIGURE that succeeds sets it. -/
theorem rejectedConfigurationRefusesStart : Obligations.RejectedConfigurationRefusesStart := by
  refine ⟨fun w ri ro s idle hbad => ?_, fun _ _ _ => perform_cfgv_of_invalid, fun _ => execStart_of_invalid⟩
  have bad := Bool.eq_false_iff.mpr (mt configureChecks_iff.mp hbad)
  exact ⟨_, execConfigure_of_rejected idle bad ri ro, rfl, rfl, rfl, rfl, rfl, rfl⟩

/-! ### After an accepted configuration -/

/-- From BUSY = 1 with ERR = OK, no BYTE and no FINISH of the rest of a computation fails: each finds BUSY = 1. -/
theorem runSteps_bytes_finish_ok {s : State} {m : List Byte} {es : List PortEvent} {k : Nat} (busy : s.busy = true)
    (ok : s.err = 0) (hp : s.port = issue (m.map .byte ++ [.finish]) ++ es) (hk : k ≤ m.length + 1) :
    ∃ t, runSteps k s = .next t ∧ t.err = 0 ∧ t.sticky = s.sticky := by
  induction k generalizing s m with
  | zero => exact ⟨s, rfl, ok, rfl⟩
  | succ k ih =>
    cases m with
    | nil =>
      obtain rfl : k = 0 := by simpa using hk
      exact ⟨_, runSteps_issue hp (execFinish_of_busy busy) 0, rfl, rfl⟩
    | cons b m =>
      have hbyte := execByte_of_busy (s := s.withPort (issue (m.map .byte ++ [.finish]) ++ es)) busy b
      rw [runSteps_issue hp hbyte]
      exact ih (m := m) busy rfl rfl (by simpa using hk)

/-- Settles O50: START finds CFGV = 1 and BUSY = 0, and the commands after it find BUSY = 1. -/
theorem acceptedConfigurationCannotFail : Obligations.AcceptedConfigurationCannotFail := by
  intro s m es k valid idle hp hpos hk
  obtain ⟨j, rfl⟩ := Nat.exists_eq_add_of_le' hpos
  rw [runSteps_issue hp (execStart_of_ready valid idle)]
  exact runSteps_bytes_finish_ok rfl rfl rfl (by omega)

end Sys2Proof.Machine
end

section
/-! SUPPORT. The bit-step, the byte fold and the final step in exact arithmetic (R89 to R93, R95, R99, R100). -/

namespace Sys2Proof.Machine

/-- The bit that a shift by 1 drops from the word is not among the low `W`. -/
theorem shiftLeft_one_toNat_mod {W : Nat} (hW : W ≤ 64) (r : Data) :
    (r <<< 1).toNat % 2 ^ W = (r.toNat <<< 1) % 2 ^ W := by
  rw [BitVec.toNat_shiftLeft, Nat.mod_mod_of_dvd _ (pow_dvd_pow 2 hW)]

/-- Masking goes through an XOR. -/
theorem xor_and_mask {W : Nat} (hW : W ≤ 64) (u v : Data) :
    (u ^^^ v) &&& mask W = (u &&& mask W) ^^^ (v &&& mask W) := by
  apply BitVec.eq_of_toNat_eq
  simp only [BitVec.toNat_xor, and_mask_toNat hW, Nat.xor_mod_two_pow]

/-- The bit-step on numbers (R89). -/
theorem divstep_toNat {W : Nat} (hW : W ≤ 64) (P r : Data) :
    (divstep W P r).toNat =
      if r.toNat.testBit (W - 1) then ((r.toNat <<< 1) ^^^ P.toNat) % 2 ^ W else (r.toNat <<< 1) % 2 ^ W := by
  rw [divstep_eq_and_mask, and_mask_toNat hW, BitVec.testBit_toNat]
  split
  · rw [BitVec.toNat_xor, Nat.xor_mod_two_pow, Nat.xor_mod_two_pow, shiftLeft_one_toNat_mod hW]
  · exact shiftLeft_one_toNat_mod hW r

/-- Settles O34: the bit-step on numbers, and its mask. -/
theorem bitStepIsShiftAndConditionalXor : Obligations.BitStepIsShiftAndConditionalXor :=
  fun _ P r _ hW _ => ⟨divstep_toNat hW P r, divstep_lt hW P r⟩

/-- Settles O35: masking goes through the XOR, and a polynomial that fits is its own masking. -/
theorem maskingBeforeOrAfterTheXorAgrees : Obligations.MaskingBeforeOrAfterTheXorAgrees := by
  intro W P r _ hW hP _
  rw [divstep, xor_and_mask hW, and_mask_of_lt hW hP]

/-- The loop of the byte fold is the iterated bit-step (R91). -/
theorem divsteps_eq_iterate (W : Nat) (P : Data) (k : Nat) (r : Data) : divsteps W P k r = (divstep W P)^[k] r := by
  induction k generalizing r with
  | zero => rfl
  | succ k ih => exact ih (divstep W P r)

/-- Settles O36: the loop's eight turns, the last of which masks. -/
theorem byteFoldIsEightBitSteps : Obligations.ByteFoldIsEightBitSteps :=
  fun W P RI r b _ hW _ => ⟨divsteps_eq_iterate W P 8 _, fold_lt hW P RI r b⟩

/-- With a zero polynomial the bit-step only doubles within `W` bits (R95). -/
theorem divstep_zero_toNat {W : Nat} (hW : W ≤ 64) (r : Data) : (divstep W 0 r).toNat = r.toNat * 2 % 2 ^ W := by
  rw [divstep_toNat hW]
  simp [Nat.shiftLeft_eq]

theorem iterate_divstep_zero_toNat {W : Nat} (hW : W ≤ 64) {r : Data} (hr : r.toNat < 2 ^ W) (k : Nat) :
    ((divstep W 0)^[k] r).toNat = r.toNat * 2 ^ k % 2 ^ W := by
  induction k with
  | zero => simpa using (Nat.mod_eq_of_lt hr).symm
  | succ k ih =>
    rw [Function.iterate_succ_apply', divstep_zero_toNat hW, ih, Nat.mod_mul_mod, pow_succ, Nat.mul_assoc]

/-- Settles O38: eight doublings. -/
theorem zeroPolynomialShiftsByEight : Obligations.ZeroPolynomialShiftsByEight :=
  fun _ _ _ hW hr => iterate_divstep_zero_toNat hW hr 8

/-- The masked XOR of the final step, on numbers (R92). -/
theorem xor_and_mask_toNat {W : Nat} (hW : W ≤ 64) (r X : Data) :
    ((r ^^^ X) &&& mask W).toNat = (r.toNat ^^^ X.toNat) % 2 ^ W := by
  rw [and_mask_toNat hW, BitVec.toNat_xor]

/-- Settles O39: the reversal, if any, is of the masked XOR. -/
theorem finalStepXorsThenReflects : Obligations.FinalStepXorsThenReflects := by
  intro W X r RO _ hW _
  refine ⟨?_, ?_, finalize_lt hW X RO r⟩
  · rintro rfl
    exact xor_and_mask_toNat hW r X
  · rintro rfl
    rw [← xor_and_mask_toNat hW, BitVec.ofNat_toNat, BitVec.setWidth_eq]
    rfl

/-- Settles O40: no byte is folded, and the XOR of two values that fit needs no mask. -/
theorem emptyMessageGivesInitXorFinal : Obligations.EmptyMessageGivesInitXorFinal := by
  intro W P I X RI RO _ hW hI hX
  have hfit : (I ^^^ X).toNat < 2 ^ W := Nat.xor_lt_two_pow hI hX
  rw [computeCrc, List.foldl_nil, finalize, and_mask_of_lt hW hfit]

/-- Settles O41: the last function applied is the final step. -/
theorem checksumFitsItsWidth : Obligations.ChecksumFitsItsWidth :=
  fun _ _ _ X _ RO _ _ hW => finalize_lt hW X RO _

end Sys2Proof.Machine
end

section
/-! SUPPORT. START, BYTE and FINISH on their words (R94 to R96), and the checksum of a computation with other commands
inside it (R98). -/

namespace Sys2Proof.Machine

/-! ### The words of START, BYTE and FINISH -/

/-- Settles O43: the format has no field in the command word, and START tests CFGV and BUSY. -/
theorem startSeedsTheRemainder : Obligations.StartSeedsTheRemainder := by
  refine ⟨fun s valid idle => execStart_of_ready valid idle, fun cmd d s hop => ?_⟩
  have hexec : exec .start s =
      .next (if s.cfgv = false then s.fail .seq else if s.busy = true then s.fail .seq else s.seed.succeed) := by
    simp only [exec, execStart, Bool.not_eq_true', apply_ite Host.Outcome.next]
  exact perform_of_row_without_fields (decode_of_opcode_5 hop) hexec

theorem execByte_of_idle {s : State} (idle : s.busy = false) (b : Byte) : execByte b s = .next (s.fail .seq) :=
  if_neg (Bool.eq_false_iff.mp idle)

theorem execFinish_of_idle {s : State} (idle : s.busy = false) : execFinish s = .next (s.fail .seq) :=
  if_neg (Bool.eq_false_iff.mp idle)

/-- Settles O44: the decoder tests the reserved bits and reads the byte, and BYTE tests BUSY. -/
theorem byteFoldsIntoTheRemainder : Obligations.ByteFoldsIntoTheRemainder := by
  refine ⟨fun b s busy => execByte_of_busy busy b, fun cmd d s hop => ?_⟩
  have hbyte : BitVec.ofNat 8 (cmd.toNat % 2 ^ 8) = cmd.extractLsb' 0 8 := by
    rw [← extractLsb'_zero_toNat, BitVec.ofNat_toNat, BitVec.setWidth_eq]
  rw [perform_of_row (decode_of_opcode_6 hop), hbyte]
  split
  · rfl
  · split
    case isTrue idle => exact execByte_of_idle idle _
    case isFalse busy => exact execByte_of_busy (Bool.eq_true_of_not_eq_false busy) _

/-- Settles O45: the format has no field in the command word, and FINISH tests BUSY. -/
theorem finishDeliversTheChecksum : Obligations.FinishDeliversTheChecksum := by
  refine ⟨fun s busy => ?_, fun cmd d s hop => ?_⟩
  · exact ⟨_, execFinish_of_busy busy, rfl, rfl, rfl, rfl, rfl, rfl, rfl, rfl, rfl, rfl, rfl, rfl, rfl, rfl, rfl⟩
  · rw [perform_of_row (decode_of_opcode_7 hop), pow_zero, Nat.div_one]
    split
    · rfl
    · split
      case isTrue idle => exact execFinish_of_idle idle
      case isFalse busy => rfl

/-! ### Computations -/

/-- Settles O48: the run of a computation ends as FINISH leaves the block. -/
theorem computationSequenceComputesTheCrc : Obligations.ComputationSequenceComputesTheCrc :=
  fun _ _ _ valid idle hp => ⟨_, runSteps_computation valid idle hp, rfl, rfl, valid, rfl, rfl, rfl⟩

/-- What FINISH will deliver if the bytes of `m` are still to be folded into REM (R91, R92). -/
def State.pending (s : State) (m : List Byte) : Data :=
  finalize s.cw.toNat s.cxor s.crefout (m.foldl (fold s.cw.toNat s.cpoly s.crefin) s.rem)

/-- A command inside a computation leaves it in progress and takes its own bytes, if any, off what is pending: BYTE
folds its byte, and the others write neither REM nor the configuration, even where REFLECT fails (R77, R98). -/
theorem exec_within_computation {s : State} {i : Instr} (hi : sparesComputation i = true ∨ ∃ b, i = .byte b)
    (busy : s.busy = true) (is : List Instr) :
    ∃ t, exec i s = .next t ∧ t.busy = true ∧ t.cfgv = s.cfgv ∧ t.port = s.port ∧
      t.pending (messageOf is) = s.pending (messageOf (i :: is)) := by
  cases i with
  | ldpoly v => exact ⟨_, rfl, busy, rfl, rfl, rfl⟩
  | ldinit v => exact ⟨_, rfl, busy, rfl, rfl, rfl⟩
  | ldxor v => exact ⟨_, rfl, busy, rfl, rfl, rfl⟩
  | byte b => exact ⟨_, execByte_of_busy busy b, busy, rfl, rfl, rfl⟩
  | reflect v n =>
    cases inRange : countInRange n with
    | true => exact ⟨_, execReflect_of_inRange inRange v s, busy, rfl, rfl, rfl⟩
    | false => exact ⟨_, execReflect_of_outOfRange inRange v s, busy, rfl, rfl, rfl⟩
  | configure w ri ro => simp [sparesComputation] at hi
  | start => simp [sparesComputation] at hi
  | finish => simp [sparesComputation] at hi

/-- From BUSY = 1, the run of such commands and FINISH delivers what was pending with their bytes. -/
theorem runSteps_within_computation_finish {s : State} {is : List Instr} {es : List PortEvent} (busy : s.busy = true)
    (his : ∀ i ∈ is, sparesComputation i = true ∨ ∃ b, i = .byte b) (hp : s.port = issue (is ++ [.finish]) ++ es) :
    ∃ t, runSteps (is.length + 1) s = .next t ∧ t.result = s.pending (messageOf is) ∧ t.busy = false ∧
      t.cfgv = s.cfgv ∧ t.err = 0 ∧ t.port = es := by
  induction is generalizing s with
  | nil => exact ⟨_, runSteps_issue hp (execFinish_of_busy busy) 0, rfl, rfl, rfl, rfl, rfl⟩
  | cons i is ih =>
    obtain ⟨hi, hrest⟩ := List.forall_mem_cons.mp his
    obtain ⟨u, hu, hbusy, hcfgv, hport, hpending⟩ :=
      exec_within_computation (s := s.withPort (issue (is ++ [.finish]) ++ es)) hi busy is
    obtain ⟨t, ht, hresult, hidle, hvalid, hok, hes⟩ := ih hbusy hrest hport
    exact ⟨t, (runSteps_issue hp hu _).trans ht, hresult.trans hpending, hidle, hvalid.trans hcfgv, hok, hes⟩

/-- Settles O49: after START, what is pending with the bytes of the commands is their checksum. -/
theorem sparingCommandsDoNotChangeTheChecksum : Obligations.SparingCommandsDoNotChangeTheChecksum := by
  intro s is es valid idle his hp
  have hstart := execStart_of_ready (s := s.withPort (issue (is ++ [.finish]) ++ es)) valid idle
  obtain ⟨t, ht, hresult, hidle, hvalid, hok, hes⟩ :=
    runSteps_within_computation_finish (s := (s.withPort (issue (is ++ [.finish]) ++ es)).seed.succeed) rfl his rfl
  exact ⟨t, (runSteps_issue hp hstart _).trans ht, hresult, hidle, hvalid.trans valid, hok, hes⟩

end Sys2Proof.Machine
end

section
/-! SUPPORT. The algebraic reading of the checksum: the divider works in the quotient of the polynomials over the
two-element field by the generator (R102). -/

namespace Sys2Proof.Machine

open Polynomial (X)

/-! ### Words as polynomials -/

/-- The low `n` bits of `v` as the coefficients of a polynomial over the two-element field, bit `i` at `x^i` (R102). -/
noncomputable def bitPoly {w : Nat} (n : Nat) (v : BitVec w) : Polynomial (ZMod 2) :=
  ∑ i ∈ Finset.range n, if v.getLsbD i then X ^ i else 0

/-- Words that agree on their low `n` bits have one polynomial. -/
theorem bitPoly_congr {w w' n : Nat} {u : BitVec w} {v : BitVec w'} (h : ∀ i < n, u.getLsbD i = v.getLsbD i) :
    bitPoly n u = bitPoly n v :=
  Finset.sum_congr rfl fun i hi => by rw [h i (Finset.mem_range.mp hi)]

@[simp] theorem bitPoly_zero (w n : Nat) : bitPoly n (0#w) = 0 := by simp [bitPoly]

theorem bitPoly_succ {w : Nat} (n : Nat) (v : BitVec w) :
    bitPoly (n + 1) v = bitPoly n v + if v.getLsbD n then X ^ n else 0 :=
  Finset.sum_range_succ ..

theorem degree_bitPoly_lt {w : Nat} (n : Nat) (v : BitVec w) : (bitPoly n v).degree < n := by
  rw [← Polynomial.mem_degreeLT]
  refine Submodule.sum_mem _ fun i hi => Polynomial.mem_degreeLT.mpr ?_
  split
  · rw [Polynomial.degree_X_pow]
    exact_mod_cast Finset.mem_range.mp hi
  · simp

/-- XOR is addition: two equal coefficients cancel. -/
theorem bitPoly_xor {w : Nat} (n : Nat) (u v : BitVec w) : bitPoly n (u ^^^ v) = bitPoly n u + bitPoly n v := by
  rw [bitPoly, bitPoly, bitPoly, ← Finset.sum_add_distrib]
  refine Finset.sum_congr rfl fun i _ => ?_
  rw [BitVec.getLsbD_xor]
  cases u.getLsbD i <;> cases v.getLsbD i <;> simp [CharTwo.add_self_eq_zero]

/-- A shift by `k` within the word multiplies by `x^k`. -/
theorem bitPoly_shiftLeft {w k n : Nat} (h : k + n ≤ w) (v : BitVec w) :
    bitPoly (k + n) (v <<< k) = X ^ k * bitPoly n v := by
  have hlow : ∑ i ∈ Finset.range k, (if (v <<< k).getLsbD i then (X : Polynomial (ZMod 2)) ^ i else 0) = 0 :=
    Finset.sum_eq_zero fun i hi => by simp [Finset.mem_range.mp hi]
  rw [bitPoly, Finset.sum_range_add, hlow, zero_add, bitPoly, Finset.mul_sum]
  refine Finset.sum_congr rfl fun i hi => ?_
  have hbit : (v <<< k).getLsbD (k + i) = v.getLsbD i := by
    have hin : k + i < w := (Nat.add_lt_add_left (Finset.mem_range.mp hi) k).trans_le h
    rw [BitVec.getLsbD_shiftLeft, Nat.add_sub_cancel_left, decide_eq_true hin, decide_eq_false (by omega)]
    simp
  rw [hbit, mul_ite, mul_zero, pow_add]

theorem bitPoly_and_mask {W : Nat} (hW : W ≤ 64) (v : Data) : bitPoly W (v &&& mask W) = bitPoly W v :=
  bitPoly_congr fun i hi => by rw [and_mask_getLsbD hW, decide_eq_true hi, Bool.true_and]

/-! ### The divider modulo the generator -/

/-- The untruncated generator `x^W + P(x)` (R102). -/
noncomputable def generator (W : Nat) (P : Data) : Polynomial (ZMod 2) := X ^ W + bitPoly W P

theorem generator_monic (W : Nat) (P : Data) : (generator W P).Monic :=
  Polynomial.monic_X_pow_add (degree_bitPoly_lt W P)

theorem degree_generator (W : Nat) (P : Data) : (generator W P).degree = W := by
  rw [generator, Polynomial.degree_add_eq_left_of_degree_lt, Polynomial.degree_X_pow]
  rw [Polynomial.degree_X_pow]
  exact degree_bitPoly_lt W P

/-- The bit-step multiplies by `x`, and subtracts the generator if the product has a term `x^W` (R89, R90). -/
theorem bitPoly_divstep {W : Nat} (hpos : 0 < W) (hW : W ≤ 64) (P r : Data) :
    bitPoly W (divstep W P r) = X * bitPoly W r + if r.getLsbD (W - 1) then generator W P else 0 := by
  obtain ⟨n, rfl⟩ := Nat.exists_eq_add_of_le hpos
  have hshift : bitPoly (1 + n) (r <<< 1) = X * bitPoly n r := by
    rw [bitPoly_shiftLeft hW, pow_one]
  have htop : bitPoly (1 + n) r = bitPoly n r + if r.getLsbD n then X ^ n else 0 := by
    rw [Nat.add_comm, bitPoly_succ]
  rw [divstep_eq_and_mask, bitPoly_and_mask hW, htop, Nat.add_sub_cancel_left]
  split
  · rw [bitPoly_xor, hshift, generator, mul_add, pow_add, pow_one, add_assoc, ← add_assoc (X * X ^ n),
      CharTwo.add_self_eq_zero, zero_add]
  · rw [hshift, add_zero, add_zero]

section
variable {W : Nat} (hW8 : 8 ≤ W) (hW : W ≤ 64) (P : Data)
include hW8 hW

/-- Modulo the generator, `k` bit-steps multiply by `x^k`. -/
theorem mk_bitPoly_divsteps (k : Nat) (r : Data) :
    AdjoinRoot.mk (generator W P) (bitPoly W (divsteps W P k r)) =
      AdjoinRoot.mk (generator W P) (X ^ k * bitPoly W r) := by
  induction k generalizing r with
  | zero => simp
  | succ k ih =>
    have hstep : AdjoinRoot.mk (generator W P) (bitPoly W (divstep W P r)) =
        AdjoinRoot.mk (generator W P) (X * bitPoly W r) := by
      rw [bitPoly_divstep (by omega) hW, map_add, apply_ite (AdjoinRoot.mk (generator W P)), AdjoinRoot.mk_self,
        map_zero, ite_self, add_zero]
    rw [divsteps_succ, ih, map_mul, hstep, ← map_mul, pow_succ, mul_assoc]

/-- The byte, moved to the top of the remainder, is added with its weight `x^(W-8)` (R91). -/
theorem bitPoly_xor_byte (r : Data) (b : Byte) :
    bitPoly W (r ^^^ (inputByte false b <<< (W - 8))) = bitPoly W r + X ^ (W - 8) * bitPoly 8 b := by
  have hbyte : bitPoly 8 (inputByte false b) = bitPoly 8 b :=
    bitPoly_congr fun i hi => inputByte_getLsbD false b (by omega)
  have hsplit : W - 8 + 8 = W := by omega
  have hshift := bitPoly_shiftLeft (k := W - 8) (n := 8) (by omega) (inputByte false b)
  rw [hsplit, hbyte] at hshift
  rw [bitPoly_xor, hshift]

/-- The fold of a byte takes the remainder of `M * x^W` to that of `(M * x^8 + b) * x^W`. -/
theorem mk_bitPoly_fold {r : Data} {M : Polynomial (ZMod 2)} (b : Byte)
    (h : AdjoinRoot.mk (generator W P) (bitPoly W r) = AdjoinRoot.mk (generator W P) (M * X ^ W)) :
    AdjoinRoot.mk (generator W P) (bitPoly W (fold W P false r b)) =
      AdjoinRoot.mk (generator W P) ((M * X ^ 8 + bitPoly 8 b) * X ^ W) := by
  have hpow : (X : Polynomial (ZMod 2)) ^ W = X ^ 8 * X ^ (W - 8) := by rw [← pow_add, Nat.add_sub_cancel' hW8]
  have hnum : (M * X ^ 8 + bitPoly 8 b) * X ^ W = X ^ 8 * (M * X ^ W) + X ^ 8 * (X ^ (W - 8) * bitPoly 8 b) := by
    rw [hpow]
    ring
  rw [fold, mk_bitPoly_divsteps hW8 hW, bitPoly_xor_byte hW8 hW, mul_add, map_add, map_mul, h, ← map_mul, hnum,
    map_add]

/-- The bytes of a message, folded one by one. -/
theorem mk_bitPoly_foldl (m : List Byte) {r : Data} {M : Polynomial (ZMod 2)}
    (h : AdjoinRoot.mk (generator W P) (bitPoly W r) = AdjoinRoot.mk (generator W P) (M * X ^ W)) :
    AdjoinRoot.mk (generator W P) (bitPoly W (m.foldl (fold W P false) r)) =
      AdjoinRoot.mk (generator W P) (m.foldl (fun M b => M * X ^ 8 + bitPoly 8 b) M * X ^ W) := by
  induction m generalizing r M with
  | nil => exact h
  | cons b m ih => exact ih (mk_bitPoly_fold hW8 hW P b h)

end

/-- A word of `W` bits that equals `p` modulo the generator is the remainder of `p`: its degree is below `W`. -/
theorem bitPoly_eq_modByMonic {W : Nat} {P v : Data} {p : Polynomial (ZMod 2)}
    (h : AdjoinRoot.mk (generator W P) (bitPoly W v) = AdjoinRoot.mk (generator W P) p) :
    bitPoly W v = p %ₘ generator W P := by
  have hmonic := generator_monic W P
  have hdegree : (bitPoly W v).degree < (generator W P).degree := by
    rw [degree_generator]
    exact degree_bitPoly_lt W v
  calc bitPoly W v = bitPoly W v %ₘ generator W P := ((Polynomial.modByMonic_eq_self_iff hmonic).mpr hdegree).symm
    _ = p %ₘ generator W P := Polynomial.modByMonic_eq_of_dvd_sub hmonic (AdjoinRoot.mk_eq_mk.mp h)

/-- Settles O42: the folds keep the remainder modulo the generator, from 0 for the empty message on, and the final step
changes no bit below `W`. -/
theorem checksumIsThePolynomialRemainder : Obligations.ChecksumIsThePolynomialRemainder := by
  intro W P m hW8 hW _
  have hfinal : bitPoly W (computeCrc W P 0 0 false false m) = bitPoly W (m.foldl (fold W P false) 0) :=
    (bitPoly_and_mask hW _).trans (congrArg _ BitVec.xor_zero)
  exact hfinal.trans (bitPoly_eq_modByMonic (mk_bitPoly_foldl hW8 hW P m (by simp)))

end Sys2Proof.Machine
end

section
/-! SUPPORT. Failing commands: each error code with its causes (R103, R106), and what a failure leaves (R104); then a step
with no event at the port (R129), and a step of one block instance among several (R116). -/

namespace Sys2Proof.Machine

/-! ### The causes of each error code -/

/-- The command `c` issued to `s` meets a cause of the error `e` (R103). The causes stand in the order of R106: the word
alone, the count alone, the state, and, with BUSY = 0, the checks. -/
inductive FailsWith (c : Command) (s : State) : ErrCode → Prop where
  | noCommand (noInstr : ¬ ∃ i, decode c = .instr i) : FailsWith c s .illegal
  | reflectCount {v : Data} {n : BitVec 7} (hd : decode c = .instr (.reflect v n)) (tooMany : 64 < n.toNat) :
      FailsWith c s .arg
  | startNotReady (hd : decode c = .instr .start) (notReady : s.cfgv = false ∨ s.busy = true) : FailsWith c s .seq
  | configureBusy {w : BitVec 7} {ri ro : Bool} (hd : decode c = .instr (.configure w ri ro)) (busy : s.busy = true) :
      FailsWith c s .seq
  | byteIdle {b : Byte} (hd : decode c = .instr (.byte b)) (idle : s.busy = false) : FailsWith c s .seq
  | finishIdle (hd : decode c = .instr .finish) (idle : s.busy = false) : FailsWith c s .seq
  | configureRejected {w : BitVec 7} {ri ro : Bool} (hd : decode c = .instr (.configure w ri ro))
      (idle : s.busy = false) (bad : (legalWidth w && s.stagedFit w) = false) : FailsWith c s .cfg

/-- What a command that fails with `e` leaves (R104): its report, and with CFG also CFGV = 0 (R84). -/
def State.afterFailure (e : ErrCode) (s : State) : State := (if e = .cfg then s.invalidate else s).fail e

theorem State.afterFailure_eq (e : ErrCode) (s : State) :
    s.afterFailure e =
      { s with err := e.code, sticky := true, cfgv := if e.code = 3 then false else s.cfgv } := by
  cases e <;> rfl

theorem ErrCode.code_injective : Function.Injective ErrCode.code := by
  intro e e'
  cases e <;> cases e' <;> decide

/-- A count is refused exactly above 64 (R75). -/
theorem countInRange_eq_false_iff {n : BitVec 7} : countInRange n = false ↔ 64 < n.toNat := by
  rw [← Bool.not_eq_true, countInRange_iff, not_le]

/-- A check of CONFIGURE fails for the width or for one of the staged values (R81, R82). -/
theorem configureChecks_eq_false_iff {s : State} {w : BitVec 7} :
    (legalWidth w && s.stagedFit w) = false ↔
      w.toNat ∉ [8, 16, 32, 64] ∨ 2 ^ w.toNat ≤ s.spoly.toNat ∨ 2 ^ w.toNat ≤ s.sinit.toNat ∨
        2 ^ w.toNat ≤ s.sxor.toNat := by
  rw [← Bool.not_eq_true, configureChecks_iff]
  simp only [not_and_or, not_lt]

theorem execStart_of_notReady {s : State} (notReady : s.cfgv = false ∨ s.busy = true) :
    execStart s = .next (s.fail .seq) := by
  obtain invalid | busy := notReady
  · exact execStart_of_invalid invalid
  · simp [execStart, busy]

/-- A command that meets a cause of `e` fails with `e`. -/
theorem FailsWith.perform_eq {c : Command} {s : State} {e : ErrCode} (h : FailsWith c s e) :
    perform c s = .next (s.afterFailure e) := by
  cases h with
  | noCommand noInstr => exact perform_of_not_instr (not_exists.mp noInstr) s
  | reflectCount hd tooMany =>
    exact (perform_instr hd s).trans (execReflect_of_outOfRange (countInRange_eq_false_iff.mpr tooMany) ..)
  | startNotReady hd notReady => exact (perform_instr hd s).trans (execStart_of_notReady notReady)
  | configureBusy hd busy => exact (perform_instr hd s).trans (execConfigure_of_busy busy ..)
  | byteIdle hd idle => exact (perform_instr hd s).trans (execByte_of_idle idle _)
  | finishIdle hd idle => exact (perform_instr hd s).trans (execFinish_of_idle idle)
  | configureRejected hd idle bad => exact (perform_instr hd s).trans (execConfigure_of_rejected idle bad ..)

/-- A command that does not succeed has met a cause of its error. -/
theorem perform_ok_or_failsWith {c : Command} {s t : State} (h : perform c s = .next t) :
    t.err = 0 ∨ ∃ e, FailsWith c s e ∧ t = s.afterFailure e := by
  obtain ⟨i, hd, he⟩ | ⟨hnone, rfl⟩ := perform_cases h
  · cases i with
    | ldpoly v => cases he; exact .inl rfl
    | ldinit v => cases he; exact .inl rfl
    | ldxor v => cases he; exact .inl rfl
    | configure w ri ro =>
      obtain ⟨busy, rfl⟩ | ⟨-, -, -, rfl⟩ | ⟨idle, bad, rfl⟩ := execConfigure_cases he
      · exact .inr ⟨_, .configureBusy hd busy, rfl⟩
      · exact .inl rfl
      · exact .inr ⟨_, .configureRejected hd idle bad, rfl⟩
    | start =>
      obtain ⟨notReady, rfl⟩ | ⟨-, -, rfl⟩ := execStart_cases he
      · exact .inr ⟨_, .startNotReady hd notReady, rfl⟩
      · exact .inl rfl
    | byte b =>
      obtain ⟨-, rfl⟩ | ⟨idle, rfl⟩ := execByte_cases he
      · exact .inl rfl
      · exact .inr ⟨_, .byteIdle hd idle, rfl⟩
    | finish =>
      obtain ⟨-, rfl⟩ | ⟨idle, rfl⟩ := execFinish_cases he
      · exact .inl rfl
      · exact .inr ⟨_, .finishIdle hd idle, rfl⟩
    | reflect v n =>
      obtain ⟨-, rfl⟩ | ⟨outOfRange, rfl⟩ := execReflect_cases he
      · exact .inl rfl
      · exact .inr ⟨_, .reflectCount hd (countInRange_eq_false_iff.mp outOfRange), rfl⟩
  · exact .inr ⟨_, .noCommand fun ⟨i, hi⟩ => by simp [hi] at hnone, rfl⟩

/-- ERR names the one error whose cause the command has met. -/
theorem perform_err_eq_iff {c : Command} {s t : State} (h : perform c s = .next t) (e : ErrCode) :
    t.err = e.code ↔ FailsWith c s e := by
  constructor
  · intro herr
    obtain hok | ⟨e', hfail, rfl⟩ := perform_ok_or_failsWith h
    · exact absurd (herr.symm.trans hok) e.code_ne_zero
    · obtain rfl : e' = e := ErrCode.code_injective herr
      exact hfail
  · intro hfail
    cases hfail.perform_eq.symm.trans h
    rfl

/-! ### The causes, code by code -/

section Causes
variable {c : Command} {s : State}

theorem failsWith_illegal_iff : FailsWith c s .illegal ↔ ¬ ∃ i, decode c = .instr i :=
  ⟨fun | .noCommand noInstr => noInstr, .noCommand⟩

theorem failsWith_arg_iff : FailsWith c s .arg ↔ ∃ v n, decode c = .instr (.reflect v n) ∧ 64 < n.toNat :=
  ⟨fun | .reflectCount hd tooMany => ⟨_, _, hd, tooMany⟩, fun ⟨_, _, hd, tooMany⟩ => .reflectCount hd tooMany⟩

theorem failsWith_seq_iff : FailsWith c s .seq ↔
    (decode c = .instr .start ∧ (s.cfgv = false ∨ s.busy = true)) ∨
    (∃ w ri ro, decode c = .instr (.configure w ri ro) ∧ s.busy = true) ∨
    (∃ b, decode c = .instr (.byte b) ∧ s.busy = false) ∨
    (decode c = .instr .finish ∧ s.busy = false) := by
  constructor
  · intro h
    cases h with
    | startNotReady hd notReady => exact .inl ⟨hd, notReady⟩
    | configureBusy hd busy => exact .inr (.inl ⟨_, _, _, hd, busy⟩)
    | byteIdle hd idle => exact .inr (.inr (.inl ⟨_, hd, idle⟩))
    | finishIdle hd idle => exact .inr (.inr (.inr ⟨hd, idle⟩))
  · rintro (⟨hd, notReady⟩ | ⟨_, _, _, hd, busy⟩ | ⟨_, hd, idle⟩ | ⟨hd, idle⟩)
    · exact .startNotReady hd notReady
    · exact .configureBusy hd busy
    · exact .byteIdle hd idle
    · exact .finishIdle hd idle

theorem failsWith_cfg_iff : FailsWith c s .cfg ↔
    ∃ w ri ro, decode c = .instr (.configure w ri ro) ∧ s.busy = false ∧
      (w.toNat ∉ [8, 16, 32, 64] ∨ 2 ^ w.toNat ≤ s.spoly.toNat ∨ 2 ^ w.toNat ≤ s.sinit.toNat ∨
        2 ^ w.toNat ≤ s.sxor.toNat) :=
  ⟨fun | .configureRejected hd idle bad => ⟨_, _, _, hd, idle, configureChecks_eq_false_iff.mp bad⟩,
    fun ⟨_, _, _, hd, idle, bad⟩ => .configureRejected hd idle (configureChecks_eq_false_iff.mpr bad)⟩

end Causes

/-- Settles O16: ERR names the cause that was met, the causes of each code are those listed, and SEQ leaves CFGV. -/
theorem errorCodeByItsCause : Obligations.ErrorCodeByItsCause := by
  intro c s t h
  have hseq : t.err = 2 ↔ FailsWith c s .seq := perform_err_eq_iff h .seq
  refine ⟨(perform_err_eq_iff h .illegal).trans failsWith_illegal_iff,
    (perform_err_eq_iff h .arg).trans failsWith_arg_iff, hseq.trans failsWith_seq_iff,
    (perform_err_eq_iff h .cfg).trans failsWith_cfg_iff, fun herr => ?_, perform_err_le h⟩
  cases (hseq.mp herr).perform_eq.symm.trans h
  rfl

/-- Settles O17: a command that did not succeed has left what its failure leaves. -/
theorem failingCommandChangesOnlyItsReport : Obligations.FailingCommandChangesOnlyItsReport := by
  intro c s t h herr
  obtain hok | ⟨e, -, rfl⟩ := perform_ok_or_failsWith h
  · exact absurd hok herr
  · exact s.afterFailure_eq e

/-! ### Steps without an event, and steps of one instance -/

/-- Settles O12: there is no event to serve. -/
theorem idleStepHoldsTheState : Obligations.IdleStepHoldsTheState := fun _ => step_idle

/-- A step of instance `k` is its own step, put back in its place. -/
theorem stepAt_cases {sys sys' : System} {k : Nat} (h : stepAt k sys = some sys') :
    ∃ s t, sys[k]? = some s ∧ step s = .next t ∧ sys' = sys.set k t := by
  unfold stepAt at h
  split at h
  · cases h
  · rename_i s hs
    split at h
    · cases h
      exact ⟨s, _, hs, ‹_›, rfl⟩
    · cases h
    · cases h

/-- Settles O54: writing place `k` of the list gives that place the new state and no other place a change. -/
theorem instancesDoNotAffectEachOther : Obligations.InstancesDoNotAffectEachOther := by
  intro sys sys' k h
  obtain ⟨s, t, hs, ht, rfl⟩ := stepAt_cases h
  obtain ⟨hk, -⟩ := List.getElem?_eq_some_iff.mp hs
  exact ⟨⟨s, t, hs, ht, List.getElem?_set_self hk⟩, fun j hj => List.getElem?_set_ne hj.symm⟩

end Sys2Proof.Machine
end

section
/-! SUPPORT. Every step completes (R131), and what a step that meets a reset leaves (R40, R107, R119). -/

namespace Sys2Proof.Machine

/-- Every instruction completes: where the condition of its rule is not met, it answers the failure (R104, R131). -/
theorem exec_completes (i : Instr) (s : State) : ∃ t, exec i s = .next t := by
  cases i with
  | ldpoly v => exact ⟨_, rfl⟩
  | ldinit v => exact ⟨_, rfl⟩
  | ldxor v => exact ⟨_, rfl⟩
  | configure w ri ro => exact execConfigure_completes w ri ro s
  | start =>
    by_cases notReady : s.cfgv = false ∨ s.busy = true
    · exact ⟨_, execStart_of_notReady notReady⟩
    · obtain ⟨valid, idle⟩ := not_or.mp notReady
      exact ⟨_, execStart_of_ready (Bool.eq_true_of_not_eq_false valid) (Bool.eq_false_iff.mpr idle)⟩
  | byte b =>
    cases busy : s.busy with
    | true => exact ⟨_, execByte_of_busy busy b⟩
    | false => exact ⟨_, execByte_of_idle busy b⟩
  | finish =>
    cases busy : s.busy with
    | true => exact ⟨_, execFinish_of_busy busy⟩
    | false => exact ⟨_, execFinish_of_idle busy⟩
  | reflect v n =>
    cases inRange : countInRange n with
    | true => exact ⟨_, execReflect_of_inRange inRange v s⟩
    | false => exact ⟨_, execReflect_of_outOfRange inRange v s⟩

/-- Every command word completes: as its instruction does, or with ILLEGAL (R62, R63, R131). -/
theorem perform_completes (c : Command) (s : State) : ∃ t, perform c s = .next t := by
  by_cases hd : ∃ i, decode c = .instr i
  · obtain ⟨i, hi⟩ := hd
    rw [perform_instr hi]
    exact exec_completes i s
  · exact ⟨_, perform_of_not_instr (not_exists.mp hd) s⟩

/-- Every event completes. -/
theorem handle_completes (e : PortEvent) (s : State) : ∃ t, handle e s = .next t := by
  cases e with
  | command c => exact perform_completes c s
  | reset => exact ⟨_, rfl⟩
  | resetDuring c => exact ⟨_, rfl⟩

/-- Settles O13: with no event the block holds its state, and every event completes. -/
theorem everyStepCompletes : Obligations.EveryStepCompletes := by
  intro s
  cases hp : s.port with
  | nil => exact ⟨s, step_idle hp⟩
  | cons e es =>
    rw [step_event hp]
    exact handle_completes e (s.withPort es)

/-- The two forms of reset are the events that assert it. -/
theorem PortEvent.isReset_eq_true_iff {e : PortEvent} : e.isReset = true ↔ e = .reset ∨ ∃ c, e = .resetDuring c := by
  cases e <;> simp [PortEvent.isReset]

/-- Settles O11: either form of reset is one step to the reset state, which keeps only the later events and the count of
free values. -/
theorem resetStepGivesResetValues : Obligations.ResetStepGivesResetValues := by
  intro s e es hp he
  exact ⟨_, step_reset hp (PortEvent.isReset_eq_true_iff.mpr he), rfl, rfl, rfl, rfl, rfl, rfl, rfl, rfl, rfl⟩

end Sys2Proof.Machine
end
